-- ==== Sys2Proof/Word.lean ====
section
/-! DEFINITION. The words of the part's links and port, and the numbers that name its nodes, slots and axles (00, Conventions). -/

namespace Sys2Proof

/-- One byte on a link or at the setting port. -/
abbrev Byte := BitVec 8

/-- A 16-bit field: a setting, a timestamp, a force as carried (00, Conventions). -/
abbrev Half := BitVec 16

/-- A requester on the vehicle link, 0 to 15 (R27). -/
abbrev Node := Fin 16

/-- The handle field of a vehicle-link identifier, 0 to 15 as sent (R173). -/
abbrev HandleField := Fin 16

/-- A slot of the demand table, 0 to 23 (R1). -/
abbrev SlotId := Fin 24

/-- An axle, counted from the front (00, Per-axle quantities). -/
abbrev AxleId := Fin 3

end Sys2Proof
end

