-- ==== Sys2Proof/Config.lean ====
section
/-! DEFINITION. The values the spec leaves open. Each is a constant with no body, so that no proof can see what it is. -/

namespace Sys2Proof.Config

/-- The 16-bit value of the n-th response formed by FRAMING, BAD_CHECK or BAD_OPERATION: R160 and R166 give the status
and no value. DESIGN CHOICE (log entry 5), safe. -/
opaque formRefusalValue : Nat → Half

/-- Whether, at the n-th draw, the frame of the lowest identifier among those offered has begun a transmission since the link
was last asked: R124 leaves it to the link. DESIGN CHOICE (log entry 6), safe. -/
opaque transmissionBegun : Nat → Bool

/-- Whether, at the n-th draw, the frame that was on the chassis link has lost arbitration or met a link error since the link was
last asked, and is offered again among the filled slots: R124 leaves it to the link. DESIGN CHOICE (log entry 6), safe. -/
opaque transmissionLost : Nat → Bool

/-- What a read of the unset thermal account of axle j would give: R138 says that no pass reads one. DESIGN CHOICE (log
entry 7), safe. -/
opaque unsetTemperature : Nat → Int

end Sys2Proof.Config
end

