-- ==== Sys2Proof/Syntax.lean ====
section
/-! DEFINITION. The commands the part takes, one constructor per row of spec/opcode_table.json. -/

namespace Sys2Proof

/-- A frame as received on either link: a data or remote frame with an 11-bit or a 29-bit identifier (R26, R181). An 11-bit
identifier stands in the low 11 bits of `id`. -/
structure CanFrame where
  extended : Bool
  remote   : Bool
  id       : BitVec 29
  data     : List Byte
  deriving DecidableEq, Repr

/-- The five entries of the health monitor (R83). -/
inductive HealthSource where
  | retarder
  | exhaust
  | modulator (j : AxleId)
  deriving DecidableEq, Repr

/-- The commands. The operands of a requester message are what its identifier and data field carry (R173, R174); the form
of an AMEND or QUERY follows from the length of the data (R29). -/
inductive Instr where
  /-- OPEN (R32). -/
  | openRecord (node : Node) (handle : HandleField) (data : List Byte)
  /-- AMEND_COMPACT (R34): an AMEND of 0 to 4 data bytes. -/
  | amendCompact (node : Node) (handle : HandleField) (data : List Byte)
  /-- AMEND_FULL (R35): an AMEND of 5 or more data bytes. -/
  | amendFull (node : Node) (handle : HandleField) (data : List Byte)
  /-- AMEND_IF (R37). -/
  | amendIf (node : Node) (handle : HandleField) (data : List Byte)
  /-- RENEW (R39). -/
  | renew (node : Node) (handle : HandleField) (data : List Byte)
  /-- RELEASE (R40). -/
  | release (node : Node) (handle : HandleField) (data : List Byte)
  /-- QUERY (R41). -/
  | query (node : Node) (handle : HandleField) (data : List Byte)
  /-- RESERVE (R42). -/
  | reserve (node : Node) (handle : HandleField) (data : List Byte)
  /-- QUALIFY (R43). -/
  | qualify (node : Node) (handle : HandleField) (data : List Byte)
  /-- VEHICLE_FRAME_IGNORED (R26). -/
  | vehicleFrameIgnored (frame : CanFrame)
  /-- LEASE_EXPIRY (R10). -/
  | leaseExpiry (slot : SlotId)
  /-- GRACE_EXPIRY (R12). -/
  | graceExpiry (slot : SlotId)
  /-- QUALIFIER_HOLD_EXPIRY (R45). -/
  | qualifierHoldExpiry (node : Node)
  /-- SAMPLE_FRAME_A (R72): the fields of R180, `ratio` the overall drive ratio I. -/
  | sampleFrameA (ts v n ratio : Half)
  /-- SAMPLE_FRAME_B (R73): the fields of R180, `oil` and `ambient` the bytes with offset +40. -/
  | sampleFrameB (ts : Half) (oil ambient load0 load1 load2 : Byte)
  /-- HEALTH_FRAME (R83): the actuator byte and the health code byte of R180. -/
  | healthFrame (actuator code : Byte)
  /-- CHASSIS_FRAME_IGNORED (R181). -/
  | chassisFrameIgnored (frame : CanFrame)
  /-- SAMPLE_TIMER_EXPIRY (R81). -/
  | sampleTimerExpiry
  /-- STATUS_TIMER_EXPIRY (R84). -/
  | statusTimerExpiry (source : HealthSource)
  /-- LOSS_HOLD_EXPIRY (R154). -/
  | lossHoldExpiry
  /-- PASS_END (R125). -/
  | passEnd
  /-- VEHICLE_FRAME_SENT (R50). -/
  | vehicleFrameSent
  /-- CHASSIS_FRAME_SENT (R124). -/
  | chassisFrameSent
  /-- POWER_ON (R146). -/
  | powerOn
  /-- LINE_RESET (R146). -/
  | lineReset
  /-- SUPPLY_DIP (R146). -/
  | supplyDip
  /-- RESET_END (R159). -/
  | resetEnd
  /-- SELECT (R161). -/
  | select (index : Half)
  /-- READ (R162); its data field is ignored. -/
  | read (data : Half)
  /-- WRITE (R163). -/
  | write (value : Half)
  /-- RUN (R167). -/
  | run
  /-- SETUP (R169). -/
  | setup
  /-- TRANSFER_REFUSED_ON_FORM (R160): the bytes clocked in. -/
  | transferRefusedOnForm (bytes : List Byte)
  /-- UNKNOWN_COMMAND (R166): the data field of the COMMAND transfer. -/
  | unknownCommand (code : Half)
  deriving DecidableEq, Repr

end Sys2Proof
end

