-- ==== Sys2Proof/Decode.lean ====
section
/-! DEFINITION. What received bits spell: a table word, a vehicle-link frame, a chassis-link frame, a setting-port transfer. -/

namespace Sys2Proof

/-- No row of spec/opcode_table.json gives bits, so no table word spells a command. -/
def decodeTableWord (_nbits _w : Nat) : Option Instr := none

/-- Byte k of a data field; a byte beyond the field is read by no form (R29, R175). -/
def byteAt (data : List Byte) (k : Nat) : Byte := data.getD k 0

/-- The 16-bit field whose least significant byte is byte k (00, Conventions: little-endian). -/
def halfAt (data : List Byte) (k : Nat) : Half := byteAt data (k + 1) ++ byteAt data k

/-- The two bytes of a 16-bit field in the order they travel (00, Conventions). -/
def halfBytes (h : Half) : List Byte := [h.setWidth 8, (h >>> 8).setWidth 8]

/-- A vehicle-link frame as the receive filter and the kind code of R26 and R27 read it: the command of the requester kind
it carries, or none for a frame that the filter ignores. `tag` is the protocol tag in force. DEDUCED (log entry 9): an AMEND of 0
or 1 byte is read as the compact form. -/
def decodeVehicleFrame (tag : Half) (f : CanFrame) : Option Instr :=
  if f.extended ∧ ¬ f.remote ∧ (f.id >>> 16).setWidth 16 = tag ∧ f.id.setWidth 4 = 0#4 then
    let node : Node := ⟨((f.id >>> 8).setWidth 4).toNat, by omega⟩
    let handle : HandleField := ⟨((f.id >>> 4).setWidth 4).toNat, by omega⟩
    match ((f.id >>> 12).setWidth 4 : BitVec 4).toNat with
    | 1 => some (.openRecord node handle f.data)
    | 2 => some (if f.data.length < 5 then .amendCompact node handle f.data else .amendFull node handle f.data)
    | 3 => some (.amendIf node handle f.data)
    | 4 => some (.renew node handle f.data)
    | 5 => some (.release node handle f.data)
    | 6 => some (.query node handle f.data)
    | 7 => some (.reserve node handle f.data)
    | 8 => some (.qualify node handle f.data)
    | _ => none
  else none

/-- A chassis-link frame as R180 and R181 read it: a data frame with an 11-bit identifier of 120h, 121h or 140h and at
least the length of its kind; none for every other frame. -/
def decodeChassisFrame (f : CanFrame) : Option Instr :=
  if f.extended ∨ f.remote then none
  else if f.id = 0x120 ∧ 8 ≤ f.data.length then
    some (.sampleFrameA (halfAt f.data 0) (halfAt f.data 2) (halfAt f.data 4) (halfAt f.data 6))
  else if f.id = 0x121 ∧ 7 ≤ f.data.length then
    some (.sampleFrameB (halfAt f.data 0) (byteAt f.data 2) (byteAt f.data 3)
      (byteAt f.data 4) (byteAt f.data 5) (byteAt f.data 6))
  else if f.id = 0x140 ∧ 2 ≤ f.data.length then
    some (.healthFrame (byteAt f.data 0) (byteAt f.data 1))
  else none

/-- The check byte over three bytes: the complement of their exclusive-or (R160, R182). -/
def checkByte (a b c : Byte) : Byte := ~~~ (a ^^^ b ^^^ c)

/-- The three ways a transfer is refused on its form (R160). -/
inductive FormError where
  | framing
  | badCheck
  | badOperation
  deriving DecidableEq, Repr

/-- A transfer as R160 and R182 read it: the form tests in their order, then the operation; a COMMAND that names neither
RUN nor SETUP is the unknown command of R166. Bytes after the fourth are ignored. -/
def decodeTransfer (bytes : List Byte) : Except FormError Instr :=
  if bytes.length < 4 then .error .framing
  else if byteAt bytes 3 ≠ checkByte (byteAt bytes 0) (byteAt bytes 1) (byteAt bytes 2) then .error .badCheck
  else
    match (byteAt bytes 0).toNat with
    | 1 => .ok (.select (halfAt bytes 1))
    | 2 => .ok (.read (halfAt bytes 1))
    | 3 => .ok (.write (halfAt bytes 1))
    | 4 =>
      if halfAt bytes 1 = 1 then .ok .run
      else if halfAt bytes 1 = 2 then .ok .setup
      else .ok (.unknownCommand (halfAt bytes 1))
    | _ => .error .badOperation

/-- The four bytes of a transfer of operation `op` with a data field, check byte included (R160). -/
def transferBytes (op : Byte) (data : Half) : List Byte :=
  match halfBytes data with
  | [lo, hi] => [op, lo, hi, checkByte op lo hi]
  | _ => []

end Sys2Proof
end

