-- ==== Sys2Proof/Machine/Settings.lean ====
section
/-! DEFINITION. The settings image, its index map, its ranges and its power-on values (03 R53, R56; 05 R88; 09 R164, R165; 10 R183, R184). -/

namespace Sys2Proof.Machine

/-- The writable columns of one class that every class holds (R53). -/
structure ClassRow where
  sources  : Half
  leaseMin : Half
  leaseMax : Half
  grace    : Half
  deriving DecidableEq, Repr

/-- The settings image: every setting as the 16-bit field stored (R165, R184). -/
structure Settings where
  protocolTag   : Half
  qualifierHold : Half
  classRows     : Vector ClassRow 6
  /-- Default inhibit of STABILITY and COLLISION; the demand classes hold none (R53). -/
  inhibits      : Vector Half 2
  /-- Onset of COLLISION, DRIVER, HOLD, DESCENT and STALK; STABILITY holds none (R53). -/
  onsets        : Vector Half 5
  classRights   : Vector Half 16
  shareRights   : Vector Half 16
  sampleTimeout : Half
  statusTimeout : Half
  nominalMass   : Half
  axleCount     : Half
  rDyn          : Half
  mu            : Half
  gain          : Vector Half 3
  pmax          : Vector Half 3
  retPoints     : Vector Half 17
  stage1Points  : Vector Half 17
  stage2Points  : Vector Half 17
  split         : Vector Half 3
  retPitch      : Half
  exhPitch      : Half
  exhOrigin     : Half
  tder          : Half
  tcut          : Half
  releaseRate   : Half
  hysteresis    : Half
  cth           : Vector Half 3
  tau           : Vector Half 3
  ts            : Half
  te            : Half
  fadeFloor     : Half
  initialTemp   : Half
  dutyThreshold : Half
  lossHold      : Half
  deriving DecidableEq, Repr

/-- The names of the settings (R183). `classOnset c` is the onset of the class of code c + 1. -/
inductive SettingIndex where
  | protocolTag | qualifierHold
  | classSources (c : Fin 6) | classInhibit (c : Fin 2) | classOnset (c : Fin 5)
  | classLeaseMin (c : Fin 6) | classLeaseMax (c : Fin 6) | classGrace (c : Fin 6)
  | classRights (m : Node) | shareRights (m : Node)
  | sampleTimeout | statusTimeout | nominalMass
  | axleCount | rDyn | mu
  | gain (j : AxleId) | pmax (j : AxleId)
  | retPoint (k : Fin 17) | stage1Point (k : Fin 17) | stage2Point (k : Fin 17)
  | split (j : AxleId)
  | retPitch | exhPitch | exhOrigin
  | tder | tcut
  | releaseRate | hysteresis
  | cth (j : AxleId) | tau (j : AxleId)
  | ts | te | fadeFloor | initialTemp
  | dutyThreshold | lossHold
  deriving DecidableEq, Repr

/-- The names of the live values (R170, R183). -/
inductive LiveIndex where
  | mode | resetCause | settingsValid
  | slotsInUse | interventionCount | waitingCount
  | temperature (j : AxleId)
  | dutyCount | dutyBits
  | passCount | fcmd
  deriving DecidableEq, Repr

/-- An index of the map: a setting or a live value (R183). -/
inductive PortIndex where
  | setting (i : SettingIndex)
  | live (l : LiveIndex)
  deriving DecidableEq, Repr

/-- The number of an index in the map (R183). -/
def SettingIndex.code : SettingIndex → Nat
  | .protocolTag => 0x0001
  | .qualifierHold => 0x0002
  | .classSources c => 0x0010 + 8 * c
  | .classInhibit c => 0x0011 + 8 * c
  | .classOnset c => 0x001A + 8 * c
  | .classLeaseMin c => 0x0013 + 8 * c
  | .classLeaseMax c => 0x0014 + 8 * c
  | .classGrace c => 0x0015 + 8 * c
  | .classRights m => 0x0040 + 2 * m
  | .shareRights m => 0x0041 + 2 * m
  | .sampleTimeout => 0x0060
  | .statusTimeout => 0x0061
  | .nominalMass => 0x0062
  | .axleCount => 0x0070
  | .rDyn => 0x0071
  | .mu => 0x0072
  | .gain j => 0x0074 + j
  | .pmax j => 0x0078 + j
  | .retPoint k => 0x0080 + k
  | .stage1Point k => 0x00A0 + k
  | .stage2Point k => 0x00C0 + k
  | .split j => 0x00E0 + j
  | .retPitch => 0x00E4
  | .exhPitch => 0x00E5
  | .exhOrigin => 0x00E6
  | .tder => 0x00F0
  | .tcut => 0x00F1
  | .releaseRate => 0x0100
  | .hysteresis => 0x0101
  | .cth j => 0x0110 + j
  | .tau j => 0x0114 + j
  | .ts => 0x0118
  | .te => 0x0119
  | .fadeFloor => 0x011A
  | .initialTemp => 0x011B
  | .dutyThreshold => 0x0120
  | .lossHold => 0x0121

/-- The number of a live value in the map (R183). -/
def LiveIndex.code : LiveIndex → Nat
  | .mode => 0x0200
  | .resetCause => 0x0201
  | .settingsValid => 0x0202
  | .slotsInUse => 0x0203
  | .interventionCount => 0x0204
  | .waitingCount => 0x0205
  | .temperature j => 0x0208 + j
  | .dutyCount => 0x020C
  | .dutyBits => 0x020D
  | .passCount => 0x020E
  | .fcmd => 0x020F

/-- The number of any index in the map (R183). -/
def PortIndex.code : PortIndex → Nat
  | .setting i => i.code
  | .live l => l.code

/-- Every setting index of the map (R183). -/
def SettingIndex.all : List SettingIndex := List.flatten
  [[protocolTag, qualifierHold],
   (List.finRange 6).map classSources, (List.finRange 2).map classInhibit, (List.finRange 5).map classOnset,
   (List.finRange 6).map classLeaseMin, (List.finRange 6).map classLeaseMax, (List.finRange 6).map classGrace,
   (List.finRange 16).map classRights, (List.finRange 16).map shareRights,
   [sampleTimeout, statusTimeout, nominalMass, axleCount, rDyn, mu],
   (List.finRange 3).map gain, (List.finRange 3).map pmax,
   (List.finRange 17).map retPoint, (List.finRange 17).map stage1Point, (List.finRange 17).map stage2Point,
   (List.finRange 3).map split,
   [retPitch, exhPitch, exhOrigin, tder, tcut, releaseRate, hysteresis],
   (List.finRange 3).map cth, (List.finRange 3).map tau,
   [ts, te, fadeFloor, initialTemp, dutyThreshold, lossHold]]

/-- Every live index of the map (R183). -/
def LiveIndex.all : List LiveIndex := List.flatten
  [[mode, resetCause, settingsValid, slotsInUse, interventionCount, waitingCount],
   (List.finRange 3).map temperature, [dutyCount, dutyBits, passCount, fcmd]]

/-- The whole index map: a number missing from it is no index (R161, R183). -/
def PortIndex.all : List PortIndex :=
  SettingIndex.all.map .setting ++ LiveIndex.all.map .live

/-- The index a SELECT names, or none when its number is missing from the map (R161, R183). -/
def PortIndex.ofCode (n : Nat) : Option PortIndex := PortIndex.all.find? (fun i => i.code == n)

/-- The setting as stored (R162). -/
def Settings.get (t : Settings) : SettingIndex → Half
  | .protocolTag => t.protocolTag
  | .qualifierHold => t.qualifierHold
  | .classSources c => t.classRows[c].sources
  | .classInhibit c => t.inhibits[c]
  | .classOnset c => t.onsets[c]
  | .classLeaseMin c => t.classRows[c].leaseMin
  | .classLeaseMax c => t.classRows[c].leaseMax
  | .classGrace c => t.classRows[c].grace
  | .classRights m => t.classRights[m]
  | .shareRights m => t.shareRights[m]
  | .sampleTimeout => t.sampleTimeout
  | .statusTimeout => t.statusTimeout
  | .nominalMass => t.nominalMass
  | .axleCount => t.axleCount
  | .rDyn => t.rDyn
  | .mu => t.mu
  | .gain j => t.gain[j]
  | .pmax j => t.pmax[j]
  | .retPoint k => t.retPoints[k]
  | .stage1Point k => t.stage1Points[k]
  | .stage2Point k => t.stage2Points[k]
  | .split j => t.split[j]
  | .retPitch => t.retPitch
  | .exhPitch => t.exhPitch
  | .exhOrigin => t.exhOrigin
  | .tder => t.tder
  | .tcut => t.tcut
  | .releaseRate => t.releaseRate
  | .hysteresis => t.hysteresis
  | .cth j => t.cth[j]
  | .tau j => t.tau[j]
  | .ts => t.ts
  | .te => t.te
  | .fadeFloor => t.fadeFloor
  | .initialTemp => t.initialTemp
  | .dutyThreshold => t.dutyThreshold
  | .lossHold => t.lossHold

/-- The image with one setting stored (R163). -/
def Settings.set (t : Settings) (i : SettingIndex) (x : Half) : Settings :=
  match i with
  | .protocolTag => { t with protocolTag := x }
  | .qualifierHold => { t with qualifierHold := x }
  | .classSources c => { t with classRows := t.classRows.set c { t.classRows[c] with sources := x } }
  | .classInhibit c => { t with inhibits := t.inhibits.set c x }
  | .classOnset c => { t with onsets := t.onsets.set c x }
  | .classLeaseMin c => { t with classRows := t.classRows.set c { t.classRows[c] with leaseMin := x } }
  | .classLeaseMax c => { t with classRows := t.classRows.set c { t.classRows[c] with leaseMax := x } }
  | .classGrace c => { t with classRows := t.classRows.set c { t.classRows[c] with grace := x } }
  | .classRights m => { t with classRights := t.classRights.set m x }
  | .shareRights m => { t with shareRights := t.shareRights.set m x }
  | .sampleTimeout => { t with sampleTimeout := x }
  | .statusTimeout => { t with statusTimeout := x }
  | .nominalMass => { t with nominalMass := x }
  | .axleCount => { t with axleCount := x }
  | .rDyn => { t with rDyn := x }
  | .mu => { t with mu := x }
  | .gain j => { t with gain := t.gain.set j x }
  | .pmax j => { t with pmax := t.pmax.set j x }
  | .retPoint k => { t with retPoints := t.retPoints.set k x }
  | .stage1Point k => { t with stage1Points := t.stage1Points.set k x }
  | .stage2Point k => { t with stage2Points := t.stage2Points.set k x }
  | .split j => { t with split := t.split.set j x }
  | .retPitch => { t with retPitch := x }
  | .exhPitch => { t with exhPitch := x }
  | .exhOrigin => { t with exhOrigin := x }
  | .tder => { t with tder := x }
  | .tcut => { t with tcut := x }
  | .releaseRate => { t with releaseRate := x }
  | .hysteresis => { t with hysteresis := x }
  | .cth j => { t with cth := t.cth.set j x }
  | .tau j => { t with tau := t.tau.set j x }
  | .ts => { t with ts := x }
  | .te => { t with te := x }
  | .fadeFloor => { t with fadeFloor := x }
  | .initialTemp => { t with initialTemp := x }
  | .dutyThreshold => { t with dutyThreshold := x }
  | .lossHold => { t with lossHold := x }

/-- An unsigned field within an interval (R164, R184). -/
def between (lo hi : Nat) (x : Half) : Bool := lo ≤ x.toNat && x.toNat ≤ hi

/-- A two's-complement field within an interval of °C (R164, R184). -/
def signedBetween (lo hi : Int) (x : Half) : Bool := lo ≤ x.toInt && x.toInt ≤ hi

/-- Whether a WRITE of a field to a setting is in range (R53, R164, R165, R184). -/
def SettingIndex.inRange (x : Half) : SettingIndex → Bool
  | .protocolTag => between 0 0x1FFF x
  | .qualifierHold => between 10 250 x
  | .classSources _ => between 1 7 x
  | .classInhibit _ => between 0 7 x
  | .classOnset c => if c = 0 then between 0 20000 x else between 1 20000 x
  | .classLeaseMin _ => between 1 255 x
  | .classLeaseMax _ => between 1 255 x
  | .classGrace _ => between 1 255 x
  | .classRights _ => between 0 255 x
  | .shareRights _ => between 0 255 x
  | .sampleTimeout => between 5 100 x
  | .statusTimeout => between 20 500 x
  | .nominalMass => between 50 280 x
  | .axleCount => between 0 255 x
  | .rDyn => between 400 600 x
  | .mu => between 10 100 x
  | .gain _ => between 20 400 x
  | .pmax _ => between 200 1000 x && x.toNat % 5 == 0
  | .retPoint _ => between 0 2500 x
  | .stage1Point _ => between 0 400 x
  | .stage2Point _ => between 0 400 x
  | .split _ => between 0 100 x
  | .retPitch => between 0 3 x
  | .exhPitch => between 0 3 x
  | .exhOrigin => between 400 1200 x
  | .tder => signedBetween (-40) 210 x
  | .tcut => signedBetween (-40) 210 x
  | .releaseRate => between 1 20000 x
  | .hysteresis => between 0 200 x
  | .cth _ => between 50 2000 x
  | .tau _ => between 60 3600 x
  | .ts => signedBetween 0 900 x
  | .te => signedBetween 0 900 x
  | .fadeFloor => between 64 256 x
  | .initialTemp => signedBetween (-40) 600 x
  | .dutyThreshold => between 10 65535 x
  | .lossHold => between 100 5000 x

/-- The settings image after power-on (R53, R56, R88, R165). -/
def powerOnSettings : Settings where
  protocolTag := 0x0B5A
  qualifierHold := 40
  classRows := #v[⟨4, 2, 20, 10⟩, ⟨7, 2, 20, 10⟩, ⟨7, 2, 50, 20⟩, ⟨4, 5, 255, 50⟩, ⟨7, 5, 100, 50⟩, ⟨3, 5, 100, 50⟩]
  inhibits := #v[3, 0]
  onsets := #v[0, 4000, 1500, 800, 600]
  classRights := Vector.replicate 16 0
  shareRights := Vector.replicate 16 0
  sampleTimeout := 15
  statusTimeout := 100
  nominalMass := 180
  axleCount := 0
  rDyn := 495
  mu := 60
  gain := #v[100, 100, 100]
  pmax := #v[600, 600, 600]
  retPoints := Vector.replicate 17 0
  stage1Points := Vector.replicate 17 0
  stage2Points := Vector.replicate 17 0
  split := #v[0, 0, 0]
  retPitch := 0
  exhPitch := 0
  exhOrigin := 600
  tder := 140
  tcut := 165
  releaseRate := 3000
  hysteresis := 30
  cth := #v[400, 400, 400]
  tau := #v[600, 600, 600]
  ts := 300
  te := 500
  fadeFloor := 128
  initialTemp := 150
  dutyThreshold := 1200
  lossHold := 1000

/-- Whether axle j is configured: the axle count setting says so (R105). -/
def Settings.axleConfigured (t : Settings) (j : AxleId) : Bool := j.val < t.axleCount.toNat

end Sys2Proof.Machine
end

