-- ==== Sys2Proof/Machine/State.lean ====
section
/-! DEFINITION. The state of the part, block by block as 00's block overview lists them, and the state after reset. -/

namespace Sys2Proof.Machine

/-- The classes of demand record (R2, R53). -/
inductive RecClass where
  | stability | collision | driver | hold | descent | stalk
  deriving DecidableEq, Repr

/-- The state of a record in a slot that is not FREE (01, section 1.2). -/
inductive RecState where
  | active | held | waiting | stale
  deriving DecidableEq, Repr

/-- The cover of a record (R2, R23). -/
inductive Cover where
  | unserved | part | covered
  deriving DecidableEq, Repr

/-- A subset of the sources RET, EXH and SVC (R2). -/
structure SourceSet where
  ret : Bool
  exh : Bool
  svc : Bool
  deriving DecidableEq, Repr

/-- A set of axles (R2, R172). -/
abbrev AxleSet := Vector Bool 3

/-- The kinds of qualifier (R43, R172). -/
inductive QualKind where
  | sources | axles | onset | inhibit
  deriving DecidableEq, Repr

/-- A qualifier: its kind and the 16-bit value carried by the QUALIFY that stored it (R44). -/
structure Qualifier where
  kind  : QualKind
  value : Half
  deriving DecidableEq, Repr

/-- A node's qualifier latch: its qualifiers, oldest first, and its hold timer in ms, none when stopped (R44). -/
structure Latch where
  quals : List Qualifier
  hold  : Option Nat
  deriving DecidableEq, Repr

/-- A demand record (R2). Its slot is the slot that holds it, its version the slot's counter (R18), its lease remaining the
slot's countdown (R15). -/
structure Record where
  owner       : Node
  handle      : Fin 4
  cls         : RecClass
  shared      : Bool
  state       : RecState
  force       : Nat
  limit       : Option Nat
  sources     : SourceSet
  exclusion   : AxleSet
  onset       : Option Nat
  inhibit     : Option SourceSet
  leasePeriod : Nat
  nextLease   : Option Nat
  cover       : Cover
  deriving DecidableEq, Repr

/-- A slot of the demand table: FREE (no record) or a record (R1), the version counter (R18), the countdown in ms, none
when stopped (R15), and the snapshot mark (R23). -/
structure Slot where
  record    : Option Record
  version   : BitVec 8
  countdown : Option Nat
  mark      : Bool
  deriving DecidableEq, Repr

/-- The demand table: its slots (R1) and the age order (R4). -/
structure Demand where
  slots : Vector Slot 24
  age   : List SlotId
  deriving DecidableEq, Repr

/-- A reservation monitor (R19). -/
structure Monitor where
  slot    : SlotId
  version : BitVec 8
  valid   : Bool
  deriving DecidableEq, Repr

/-- The arbiter's intervention list, waiting queue (R57) and suppression flag (R61). -/
structure Arbiter where
  listed      : List SlotId
  waiting     : List SlotId
  suppression : Bool
  deriving DecidableEq, Repr

/-- A sample frame A (R72, R180). -/
structure FrameA where
  ts    : Half
  v     : Half
  n     : Half
  ratio : Half
  deriving DecidableEq, Repr

/-- A sample frame B (R73, R180). -/
structure FrameB where
  ts      : Half
  oil     : Byte
  ambient : Byte
  loads   : Vector Byte 3
  deriving DecidableEq, Repr

/-- The contents of a valid complete sample (R79): `exhaustMark` is the mark "exhaust unavailable by sample" (R76), an
absent `oil` the mark "oil temperature unknown" (R77); ambient and loads as received or substituted (R77, R78). -/
structure Sample where
  ts          : Half
  v           : Nat
  n           : Nat
  ratio       : Nat
  exhaustMark : Bool
  oil         : Option Int
  ambient     : Int
  loads       : Vector Nat 3
  dt          : Nat
  deriving DecidableEq, Repr

/-- The sample intake (R82). -/
structure Intake where
  pendingA    : Option FrameA
  held        : Option Sample
  lastUsed    : Option Half
  lastV       : Option Nat
  lastAmbient : Int
  timer       : Option Nat
  deriving DecidableEq, Repr

/-- A health value (R83). -/
inductive Health where
  | ok | degraded | fault
  deriving DecidableEq, Repr

/-- An entry of the health monitor: its value and its status timer in ms, none when stopped (R83, R84). -/
structure HealthEntry where
  value : Health
  timer : Option Nat
  deriving DecidableEq, Repr

/-- The health monitor (R83). -/
structure HealthMonitor where
  retarder  : HealthEntry
  exhaust   : HealthEntry
  modulator : Vector HealthEntry 3
  deriving DecidableEq, Repr

/-- The five health values as a pass or the mode controller reads them (R86). -/
structure HealthValues where
  retarder  : Health
  exhaust   : Health
  modulator : Vector Health 3
  deriving DecidableEq, Repr

/-- The direction of the ramp (R111). -/
inductive RampDir where
  | up | down | level
  deriving DecidableEq, Repr

/-- The last set-points: retarder force, exhaust stage, pressure of each axle (R108). -/
structure SetPoints where
  ret      : Nat
  stage    : Fin 3
  pressure : Vector Nat 3
  deriving DecidableEq, Repr

/-- The state the apportioner carries from pass to pass (R108). -/
structure Apportioner where
  fcmd      : Nat
  rho       : Nat
  dir       : RampDir
  last      : SetPoints
  passCount : BitVec 8
  deriving DecidableEq, Repr

/-- The arbiter result of a pass (R63): `cap` is Fcap, `onset` the onset rate, absent with no governing record. -/
structure ArbResult where
  fgov      : Nat
  governing : Option SlotId
  cap       : Option Nat
  inhibit   : SourceSet
  sources   : SourceSet
  axles     : AxleSet
  onset     : Option Nat
  deriving DecidableEq, Repr

/-- The capability of a pass (R94): Cret; for stages 1 and 2 the stage force when the stage is available (R100); Csvc_j and
the candidate mark of each axle (R104); the fade factors read (R94). `exhaust` says that R99 leaves the exhaust available. -/
structure Capability where
  cret       : Nat
  exhaust    : Bool
  stage1     : Option Nat
  stage2     : Option Nat
  csvc       : Vector Nat 3
  candidate  : Vector Bool 3
  fade       : Vector Nat 3
  deriving DecidableEq, Repr

/-- The thermal band of an axle (R136). -/
inductive Band where
  | cool | warm | hot
  deriving DecidableEq, Repr

/-- The hottest axle's whole-degree temperature plus 40, and its band (R136). -/
structure Hottest where
  figure : Nat
  band   : Band
  deriving DecidableEq, Repr

/-- The pass in flight: its sample (R106), its snapshot (R107), the arbiter result and capability derived from it, the
hottest axle as the pass found the accounts (R125), the current exhaust stage it starts from (R114, R158), which no expiry of the
sample timer changes (R81), and whether the pass started in FAILSAFE (R156). -/
structure Pass where
  sample       : Sample
  slots        : Vector Slot 24
  age          : List SlotId
  listed       : List SlotId
  waiting      : List SlotId
  health       : HealthValues
  arb          : ArbResult
  cap          : Capability
  hottest      : Hottest
  currentStage : Fin 3
  fromFailsafe : Bool
  deriving DecidableEq, Repr

/-- A set thermal account: T16 and the heating and cooling residues (R130). -/
structure Account where
  t16     : Int
  heatRes : Nat
  coolRes : Int
  deriving DecidableEq, Repr

/-- The duty timer (R140). -/
structure DutyTimer where
  running : Bool
  count   : Nat
  warn    : Bool
  deriving DecidableEq, Repr

/-- The operating modes (R144). `hold` is HOLD mode. -/
inductive Mode where
  | setup | startup | normal | hold | loss | failsafe
  deriving DecidableEq, Repr

/-- The reset causes (R146). -/
inductive ResetCause where
  | powerOn | line | supplyDip
  deriving DecidableEq, Repr

/-- The mode controller (R144): `sigma` is the fallback residue, `fallback` the FALLBACK line, true when asserted. -/
structure ModeControl where
  mode          : Mode
  settingsValid : Bool
  cause         : ResetCause
  recovery      : Nat
  lossHold      : Option Nat
  sigma         : Nat
  fallback      : Bool
  deriving DecidableEq, Repr

/-- The port status codes (R160, R182). -/
inductive PortStatus where
  | ok | restarted | framing | badCheck | badOperation | badIndex | noSelect
  | readOnly | notSetup | range | inconsistent | recordsHeld | inMotion
  deriving DecidableEq, Repr

/-- The response register (R159). -/
structure Response where
  status : PortStatus
  value  : Half
  deriving DecidableEq, Repr

/-- The setting port (R159): the select pointer, the response register, the input register, and the bytes the data-out line
carried during the last transfer (R160). -/
structure SettingPort where
  pointer  : Option PortIndex
  response : Response
  input    : List Byte
  out      : List Byte
  deriving DecidableEq, Repr

/-- A frame in the vehicle transmit queue, identifier and data fixed when it joined (R50). -/
structure VehicleFrame where
  id   : BitVec 29
  data : List Byte
  deriving DecidableEq, Repr

/-- A set-point frame on the chassis link (R180). -/
structure ChassisFrame where
  id   : BitVec 11
  data : List Byte
  deriving DecidableEq, Repr

/-- A transmit slot: the frame offered, whether its transmission has begun, and the frame that waits behind it (R124). A frame
that has begun stays so while it is offered again (log entry 19). -/
structure TxSlot where
  front  : Option ChassisFrame
  begun  : Bool
  behind : Option ChassisFrame
  deriving DecidableEq, Repr

/-- The chassis transmit slots, kind 0 RET/EXH and kind 1 + j AXLE j, and the kind whose frame was on the link when the link was
last asked (R124, log entry 6). -/
structure ChassisTx where
  slots : Vector TxSlot 4
  onAir : Option (Fin 4)
  deriving DecidableEq, Repr

/-- The state of the part. `pending` is the queue of waiting commands; `inReset` says that a reset lasts (R146);
`freeCount` is the model's own count of the free values drawn (log entry 14). -/
structure State where
  pending   : List Instr
  inReset   : Bool
  vehicleTx : List VehicleFrame
  latches   : Vector Latch 16
  demand    : Demand
  monitors  : Vector Monitor 16
  arbiter   : Arbiter
  intake    : Intake
  health    : HealthMonitor
  settings  : Settings
  app       : Apportioner
  pass      : Option Pass
  chassisTx : ChassisTx
  accounts  : Vector (Option Account) 3
  duty      : DutyTimer
  ctl       : ModeControl
  port      : SettingPort
  freeCount : Nat
  deriving DecidableEq, Repr

/-- The part has no fault that stops it: every refusal of a message or transfer is an answer, and health FAULT is state.
So no constructor. -/
inductive Fault where
  deriving DecidableEq, Repr

/-- The reasons the model has no meaning for a command. -/
inductive Refusal where
  /-- Raised by an arm of `exec` whose command has no meaning yet; no arm raises it. Safe. -/
  | notModelled (mnemonic : String)
  deriving DecidableEq, Repr

/-- An empty latch, its timer stopped (R44). -/
def Latch.empty : Latch := { quals := [], hold := none }

/-- A FREE slot after a reset (R25). -/
def Slot.afterReset : Slot := { record := none, version := 0, countdown := none, mark := false }

/-- The demand table after a reset (R25). -/
def Demand.afterReset : Demand := { slots := Vector.replicate 24 Slot.afterReset, age := [] }

/-- A monitor after a reset (R19). -/
def Monitor.afterReset : Monitor := { slot := 0, version := 0, valid := false }

/-- The arbiter after a reset (R57, R61). -/
def Arbiter.afterReset : Arbiter := { listed := [], waiting := [], suppression := false }

/-- The intake after power-on (R82). -/
def Intake.afterPowerOn : Intake :=
  { pendingA := none, held := none, lastUsed := none, lastV := none, lastAmbient := 20, timer := none }

/-- A health entry that no driver has reported to (R87). -/
def HealthEntry.silent : HealthEntry := { value := .fault, timer := none }

/-- The health monitor after a reset, RUN and the entry to SETUP (R87). -/
def HealthMonitor.silent : HealthMonitor :=
  { retarder := .silent, exhaust := .silent, modulator := Vector.replicate 3 .silent }

/-- Set-points all 0 (R108). -/
def SetPoints.zero : SetPoints := { ret := 0, stage := 0, pressure := Vector.replicate 3 0 }

/-- The apportioner after a reset or RUN (R108). -/
def Apportioner.afterReset : Apportioner := { fcmd := 0, rho := 0, dir := .level, last := .zero, passCount := 0 }

/-- Empty transmit slots (R124). -/
def ChassisTx.empty : ChassisTx :=
  { slots := Vector.replicate 4 { front := none, begun := false, behind := none }, onAir := none }

/-- The duty timer after a reset, RUN and the entry to SETUP (R143). -/
def DutyTimer.stopped : DutyTimer := { running := false, count := 0, warn := false }

/-- The mode controller after power-on (R144). -/
def ModeControl.afterPowerOn : ModeControl :=
  { mode := .setup, settingsValid := false, cause := .powerOn, recovery := 0, lossHold := none, sigma := 0, fallback := true }

/-- The setting port at the end of a reset (R159). `out` is a DESIGN CHOICE (log entry 13), unsafe. -/
def SettingPort.afterReset : SettingPort :=
  { pointer := none, response := { status := .restarted, value := 0 }, input := [], out := [] }

/-- The part right after power-on's reset has ended (R146, R159). The value of `freeCount` is a DESIGN CHOICE (log entry
14), unsafe; no statement rests on it. -/
def State.reset : State where
  pending := []
  inReset := false
  vehicleTx := []
  latches := Vector.replicate 16 .empty
  demand := .afterReset
  monitors := Vector.replicate 16 .afterReset
  arbiter := .afterReset
  intake := .afterPowerOn
  health := .silent
  settings := powerOnSettings
  app := .afterReset
  pass := none
  chassisTx := .empty
  accounts := Vector.replicate 3 none
  duty := .stopped
  ctl := .afterPowerOn
  port := .afterReset
  freeCount := 0

end Sys2Proof.Machine
end

