-- ==== Sys2Proof/Machine/Operands.lean ====
section
/-! DEFINITION. The operand forms: codes and masks (R172, R176), the fields of the requester messages (R174, R175), the
clamps (R31, R55) and the validity of qualifiers (R47). -/

namespace Sys2Proof.Machine

/-- Class codes (R172). -/
def RecClass.code : RecClass → Nat
  | .stability => 0 | .collision => 1 | .driver => 2 | .hold => 3 | .descent => 4 | .stalk => 5

/-- The class of a code; a code above 5 names none (R33). -/
def RecClass.ofCode : Nat → Option RecClass
  | 0 => some .stability | 1 => some .collision | 2 => some .driver
  | 3 => some .hold | 4 => some .descent | 5 => some .stalk
  | _ => none

/-- The row of a class in the class table (R53). -/
def RecClass.row : RecClass → Fin 6
  | .stability => 0 | .collision => 1 | .driver => 2 | .hold => 3 | .descent => 4 | .stalk => 5

/-- The fixed intervention column (R53). -/
def RecClass.intervention : RecClass → Bool
  | .stability => true | .collision => true | .driver => false | .hold => false | .descent => false | .stalk => false

/-- The fixed held column (R53). -/
def RecClass.heldColumn : RecClass → Bool
  | .stability => false | .collision => false | .driver => false | .hold => false | .descent => true | .stalk => true

/-- The demand classes, whose records contribute a force (00, Demand class). -/
def RecClass.isDemand : RecClass → Bool
  | .stability => false | .collision => true | .driver => true | .hold => true | .descent => true | .stalk => true

/-- Record state codes (R172); FREE is no record. -/
def recStateCode : Option RecState → Nat
  | none => 0 | some .active => 1 | some .held => 2 | some .waiting => 3 | some .stale => 4

/-- Cover codes (R172). -/
def Cover.code : Cover → Nat
  | .unserved => 0 | .part => 1 | .covered => 2

/-- Mode codes (R172). -/
def Mode.code : Mode → Nat
  | .setup => 0 | .startup => 1 | .normal => 2 | .hold => 3 | .loss => 4 | .failsafe => 5

/-- Reset cause codes (R183). -/
def ResetCause.code : ResetCause → Nat
  | .powerOn => 0 | .line => 1 | .supplyDip => 2

/-- Band codes (R172). -/
def Band.code : Band → Nat
  | .cool => 0 | .warm => 1 | .hot => 2

/-- The qualifier kind of a code; 0 and 5 to FFh name none (R172, R175). -/
def QualKind.ofCode : Nat → Option QualKind
  | 1 => some .sources | 2 => some .axles | 3 => some .onset | 4 => some .inhibit
  | _ => none

/-- A source mask: bit 0 RET, bit 1 EXH, bit 2 SVC (R172). -/
def SourceSet.ofMask (m : Half) : SourceSet := { ret := m.getLsbD 0, exh := m.getLsbD 1, svc := m.getLsbD 2 }

/-- The mask of a source set (R172). -/
def SourceSet.mask (x : SourceSet) : Nat := x.ret.toNat + 2 * x.exh.toNat + 4 * x.svc.toNat

/-- Union of source sets (R66). -/
def SourceSet.union (x y : SourceSet) : SourceSet :=
  { ret := x.ret || y.ret, exh := x.exh || y.exh, svc := x.svc || y.svc }

/-- The sources of x that are not in y (R67). -/
def SourceSet.less (x y : SourceSet) : SourceSet :=
  { ret := x.ret && !y.ret, exh := x.exh && !y.exh, svc := x.svc && !y.svc }

/-- The empty source set. -/
def SourceSet.empty : SourceSet := { ret := false, exh := false, svc := false }

/-- All three sources. -/
def SourceSet.all : SourceSet := { ret := true, exh := true, svc := true }

/-- An axle mask: bit j axle j (R172). -/
def axleSetOfMask (m : Half) : AxleSet := Vector.ofFn fun j => m.getLsbD j

/-- The mask of an axle set (R172). -/
def axleMask (x : AxleSet) : Nat := x[0].toNat + 2 * x[1].toNat + 4 * x[2].toNat

/-- The empty axle set. -/
def axleSetEmpty : AxleSet := Vector.replicate 3 false

/-- The kinds of requester message (R27). -/
inductive MsgKind where
  | openRecord | amend | amendIf | renew | release | query | reserve | qualify
  deriving DecidableEq, Repr

/-- Message kind codes (R27). -/
def MsgKind.code : MsgKind → Nat
  | .openRecord => 1 | .amend => 2 | .amendIf => 3 | .renew => 4
  | .release => 5 | .query => 6 | .reserve => 7 | .qualify => 8

/-- The result codes of answers (R176). -/
inductive ResultCode where
  | accepted | queued | shadowed | latchFull | notRunning | noRights | badHandle | handleInUse
  | noRecord | tableFull | recordStale | classField | reservationLost | notShared | badLength
  deriving DecidableEq, Repr

/-- The value of a result code in an ANSWER (R176). -/
def ResultCode.code : ResultCode → Nat
  | .accepted => 0x00 | .queued => 0x01 | .shadowed => 0x02 | .latchFull => 0x03
  | .notRunning => 0x10 | .noRights => 0x11 | .badHandle => 0x12 | .handleInUse => 0x13
  | .noRecord => 0x14 | .tableFull => 0x15 | .recordStale => 0x16 | .classField => 0x17
  | .reservationLost => 0x18 | .notShared => 0x19 | .badLength => 0x1A

/-- The value of a port status (R182). -/
def PortStatus.code : PortStatus → Nat
  | .ok => 0x00 | .restarted => 0x01 | .framing => 0x10 | .badCheck => 0x11 | .badOperation => 0x12
  | .badIndex => 0x13 | .noSelect => 0x14 | .readOnly => 0x15 | .notSetup => 0x16 | .range => 0x17
  | .inconsistent => 0x18 | .recordsHeld => 0x19 | .inMotion => 0x1A

/-- The handle of a handle-form message; a handle field of 4 to 15 is BAD_HANDLE (R29). -/
def asHandle (hf : HandleField) : Option (Fin 4) := if h : hf.val < 4 then some ⟨hf.val, h⟩ else none

/-- The slot a data byte names; a byte above 23 names none (R175). -/
def asSlot (b : Byte) : Option SlotId := if h : b.toNat < 24 then some ⟨b.toNat, h⟩ else none

/-- A carried force after the clamp (R31). -/
def clampForce (f : Half) : Nat := min f.toNat 2500

/-- A carried limit after the clamp, FFFFh meaning absent (R31). -/
def clampLimit (l : Half) : Option Nat := if l = 0xFFFF then none else some (min l.toNat 2500)

/-- A carried lease period after the two steps of R55. -/
def clampLease (row : ClassRow) (p : Byte) : Nat := min (max p.toNat row.leaseMin.toNat) row.leaseMax.toNat

/-- What the amending messages and OPEN carry besides qualifiers, after the clamps: a force, and in the forms that carry
them a limit and a lease period (R174). -/
structure Carried where
  force   : Nat
  limit   : Option (Option Nat)
  lease   : Option Nat
  clamped : Bool
  deriving DecidableEq, Repr

/-- The force check and the limit check of CLASS_FIELD (R33 check 7, R36 check 6, R38 check 4): a STABILITY record has force
0 and, where a limit field is carried, a limit; another class carries no limit. -/
def Carried.fitsClass (x : Carried) (c : RecClass) : Bool :=
  if c = .stability then x.force == 0 && x.limit != some none
  else match x.limit with
    | none => true
    | some l => l.isNone

/-- Whether a qualifier is valid for a class on a coach with these settings (R47, R175). -/
def Qualifier.validFor (t : Settings) (c : RecClass) (q : Qualifier) : Bool :=
  match q.kind with
  | .sources => 1 ≤ q.value.toNat && q.value.toNat ≤ 7
  | .axles =>
    q.value.toNat < 8 && (List.finRange 3).all fun j => !q.value.getLsbD j.val || t.axleConfigured j
  | .onset => c != .stability && q.value.toNat ≤ 20000 && (q.value != 0 || c == .collision)
  | .inhibit => c.intervention && q.value.toNat ≤ 7

/-- A record with the field of one qualifier set (R46, R47). -/
def Record.qualified (r : Record) (q : Qualifier) : Record :=
  match q.kind with
  | .sources => { r with sources := .ofMask q.value }
  | .axles => { r with exclusion := axleSetOfMask q.value }
  | .onset => { r with onset := some q.value.toNat }
  | .inhibit => { r with inhibit := some (.ofMask q.value) }

/-- The content fields, whose change counts for the version (R18). -/
def Record.content (r : Record) :
    Nat × Option Nat × SourceSet × AxleSet × Option Nat × Option SourceSet :=
  (r.force, r.limit, r.sources, r.exclusion, r.onset, r.inhibit)

/-- Whether a record is in ACTIVE, HELD or WAITING. -/
def Record.live (r : Record) : Bool := r.state != .stale

/-- Whether class code c stands in a rights field (R184: class code c in bit c). -/
def rightsHold (rights : Half) (c : RecClass) : Bool := rights.getLsbD c.code

/-- The default inhibit a new record of a class takes; the demand classes hold none (R32, R53). -/
def Settings.defaultInhibit (t : Settings) : RecClass → Option SourceSet
  | .stability => some (.ofMask t.inhibits[0])
  | .collision => some (.ofMask t.inhibits[1])
  | .driver => none | .hold => none | .descent => none | .stalk => none

/-- The onset column of a class in FU/s; STABILITY holds none (R53, R69). -/
def Settings.classOnset (t : Settings) : RecClass → Option Nat
  | .stability => none
  | .collision => some t.onsets[0].toNat
  | .driver => some t.onsets[1].toNat
  | .hold => some t.onsets[2].toNat
  | .descent => some t.onsets[3].toNat
  | .stalk => some t.onsets[4].toNat

end Sys2Proof.Machine
end

