-- ==== Sys2Proof/Machine/Flags.lean ====
section
/-! DEFINITION. The flags the part computes: CLAMPED, the FALLBACK line, the suppression flag, DUTY_WARN. -/

namespace Sys2Proof.Machine

/-- Whether the clamp changed a carried force (R31). -/
def forceClamped (f : Half) : Bool := 2500 < f.toNat

/-- Whether the clamp changed a carried limit (R31). -/
def limitClamped (l : Half) : Bool := 2500 < l.toNat && l != 0xFFFF

/-- Whether either step of the lease clamp changed the value (R55). -/
def leaseClamped (row : ClassRow) (p : Byte) : Bool :=
  p.toNat < row.leaseMin.toNat || row.leaseMax.toNat < max p.toNat row.leaseMin.toNat

/-- The FALLBACK line is asserted exactly in SETUP, STARTUP and FAILSAFE (R145). -/
def Mode.assertsFallback : Mode → Bool
  | .setup => true | .startup => true | .normal => false | .hold => false | .loss => false | .failsafe => true

/-- Whether the intervention list holds a COLLISION record (R61). -/
def holdsCollision (slots : Vector Slot 24) (listed : List SlotId) : Bool :=
  listed.any fun i => slots[i].record.any fun r => r.cls == .collision

/-- DUTY_WARN after an update that left this run state and count (R142). -/
def dutyWarn (running : Bool) (count threshold : Nat) : Bool := running && 100 * threshold ≤ count

end Sys2Proof.Machine
end

