-- ==== Sys2Proof/Machine/Ops.lean ====
section
/-! DEFINITION. The shared operations on state: slots and records, monitors, latches, the arbiter's lists, the vehicle transmit
queue, the chassis transmit slots, the mode, the port's response. -/

namespace Sys2Proof.Machine

/-! ## Slots and records -/

/-- Slot i of the demand table (R1). -/
def State.slot (s : State) (i : SlotId) : Slot := s.demand.slots[i]

/-- The record in slot i, none when FREE (R1). -/
def State.record (s : State) (i : SlotId) : Option Record := (s.slot i).record

/-- The state with slot i replaced. -/
def State.putSlot (s : State) (i : SlotId) (x : Slot) : State :=
  { s with demand := { s.demand with slots := s.demand.slots.set i x } }

/-- The state with every slot rewritten by f. -/
def State.mapSlots (s : State) (f : Slot → Slot) : State :=
  { s with demand := { s.demand with slots := Vector.ofFn fun i => f s.demand.slots[i] } }

/-- The lowest-numbered slot that satisfies p. -/
def lowestSlot (p : SlotId → Bool) : Option SlotId := (List.finRange 24).find? p

/-- The slot of the record with this owner and handle (R27); R1 allows one at most. -/
def State.findHandle (s : State) (n : Node) (h : Fin 4) : Option SlotId :=
  lowestSlot fun i => (s.record i).any fun r => r.owner == n && r.handle == h

/-- The number of non-FREE slots (R17, R170). -/
def State.slotsInUse (s : State) : Nat := ((List.finRange 24).filter fun i => (s.record i).isSome).length

/-- A change of a record's state: its cover becomes UNSERVED (R24) and the slot's snapshot mark is removed (R23). -/
def Slot.enter (x : Slot) (st : RecState) : Slot :=
  { x with record := x.record.map fun r => { r with state := st, cover := .unserved }, mark := false }

/-- The record in slot i changes state (R23, R24). -/
def State.enterState (s : State) (i : SlotId) (st : RecState) : State := s.putSlot i ((s.slot i).enter st)

/-! ## Reservation monitors -/

/-- Every monitor that names slot i has its valid flag cleared (R20). -/
def State.clearMonitorsOf (s : State) (i : SlotId) : State :=
  { s with monitors := Vector.ofFn fun n =>
      if s.monitors[n].slot = i then { s.monitors[n] with valid := false } else s.monitors[n] }

/-- A node's own monitor has its valid flag cleared (R19, R20). -/
def State.clearMonitor (s : State) (n : Node) : State :=
  { s with monitors := s.monitors.set n { s.monitors[n] with valid := false } }

/-- A node's monitor is set to a slot and version, valid (R19). -/
def State.setMonitor (s : State) (n : Node) (i : SlotId) (v : BitVec 8) : State :=
  { s with monitors := s.monitors.set n { slot := i, version := v, valid := true } }

/-! ## Qualifier latches -/

/-- The qualifiers of a node's latch, oldest first (R44). -/
def State.quals (s : State) (n : Node) : List Qualifier := s.latches[n].quals

/-- A node's latch is emptied and its hold timer stopped (R44). -/
def State.emptyLatch (s : State) (n : Node) : State := { s with latches := s.latches.set n .empty }

/-! ## The arbiter -/

/-- Suppression of one slot: an ACTIVE record of a class with yes in the held column becomes HELD (R61). -/
def Slot.suppress (x : Slot) : Slot :=
  if x.record.any fun r => r.state == .active && r.cls.heldColumn then x.enter .held else x

/-- The end of suppression for one slot: a HELD record becomes ACTIVE (R61). -/
def Slot.unsuppress (x : Slot) : Slot := if x.record.any fun r => r.state == .held then x.enter .active else x

/-- The suppression flag is re-examined after a change of the intervention list, and the DESCENT and STALK records are
brought into line (R8, R61). -/
def State.alignSuppression (s : State) : State :=
  let now := holdsCollision s.demand.slots s.arbiter.listed
  let t := { s with arbiter := { s.arbiter with suppression := now } }
  if now && !s.arbiter.suppression then t.mapSlots .suppress
  else if !now && s.arbiter.suppression then t.mapSlots .unsuppress
  else t

/-- The arbiter's admission test for the record in slot i: the state it takes and the structure it joins (R5, R58, R61). -/
def State.admissionTest (s : State) (i : SlotId) : State :=
  match s.record i with
  | none => s
  | some r =>
    if r.cls.intervention then
      if s.arbiter.listed.length < 4 then
        let t := s.enterState i .active
        { t with arbiter := { t.arbiter with listed := t.arbiter.listed ++ [i] } }.alignSuppression
      else
        let t := s.enterState i .waiting
        { t with arbiter := { t.arbiter with waiting := t.arbiter.waiting ++ [i] } }
    else if r.cls.heldColumn && s.arbiter.suppression then s.enterState i .held
    else s.enterState i .active

/-- The departure of slot i from the arbiter's structures: from the intervention list with the admission of the oldest
waiting record and suppression brought into line, or from the waiting queue (R9, R59). -/
def State.depart (s : State) (i : SlotId) : State :=
  if i ∈ s.arbiter.listed then
    let rest := s.arbiter.listed.erase i
    match s.arbiter.waiting with
    | [] => { s with arbiter := { s.arbiter with listed := rest } }.alignSuppression
    | w :: ws =>
      { s with arbiter := { s.arbiter with listed := rest ++ [w], waiting := ws } }.enterState w .active |>.alignSuppression
  else { s with arbiter := { s.arbiter with waiting := s.arbiter.waiting.erase i } }

/-! ## The life of a record -/

/-- Slot i becomes FREE: it leaves the age order, its countdown stops, its snapshot mark goes and the monitors that name it
are cleared; its version counter keeps its value (R4, R6, R12, R13, R20, R23). -/
def State.freeSlot (s : State) (i : SlotId) : State :=
  let t := s.putSlot i { s.slot i with record := none, countdown := none, mark := false }
  { t with demand := { t.demand with age := t.demand.age.erase i } }.clearMonitorsOf i

/-- A record is created in slot i: the version counter steps, the slot joins the age order, the lease countdown starts (R5).
Its state is then given by the admission test. -/
def State.createRecord (s : State) (i : SlotId) (r : Record) : State :=
  let t := s.putSlot i
    { record := some r, version := (s.slot i).version + 1, countdown := some (10 * r.leasePeriod), mark := false }
  { t with demand := { t.demand with age := t.demand.age ++ [i] } }.clearMonitorsOf i

/-- Step 1 of a renewal: a staged next lease period is promoted (R16). -/
def Record.promote (r : Record) : Record := { r with leasePeriod := r.nextLease.getD r.leasePeriod, nextLease := none }

/-- Step 3 of a renewal: a carried lease period that differs from the one in force is staged (R16). -/
def Record.stage (r : Record) (p : Option Nat) : Record :=
  match p with
  | some p => if p = r.leasePeriod then r else { r with nextLease := some p }
  | none => r

/-- The record after an accepted amendment: the carried fields, the qualifiers, and the renewal (R7, R16, R34, R35, R37). -/
def Record.amended (r : Record) (x : Carried) (quals : List Qualifier) : Record :=
  (quals.foldl Record.qualified { r with force := x.force, limit := x.limit.getD r.limit }).promote.stage x.lease

/-- Whether an amendment counts for the version: content changed, or a lease period was staged (R18). -/
def Record.contentMoved (before after : Record) : Bool := before.content != after.content || after.nextLease.isSome

/-- The renewal of the lease in slot i by steps 1 and 2 of R16 (R39). -/
def State.renewSlot (s : State) (i : SlotId) : State :=
  match s.record i with
  | none => s
  | some r =>
    s.putSlot i { s.slot i with record := some r.promote, countdown := some (10 * r.promote.leasePeriod) }

/-- An accepted amendment of the record in slot i: its fields, the restart of its countdown, its version and the monitors
(R7, R16, R18, R20). -/
def State.amendSlot (s : State) (i : SlotId) (x : Carried) (quals : List Qualifier) : State :=
  match s.record i with
  | none => s
  | some r =>
    let r' := r.amended x quals
    let moved := r.contentMoved r'
    let t := s.putSlot i { s.slot i with
      record := some r'
      countdown := some (10 * r'.leasePeriod)
      version := if moved then (s.slot i).version + 1 else (s.slot i).version }
    if moved then t.clearMonitorsOf i else t

/-! ## The vehicle transmit queue -/

/-- Frames join the queue at its tail as one item when there is room for all of them among its 16 places, and are discarded
otherwise (R50, R51). -/
def State.enqueue (s : State) (frames : List VehicleFrame) : State :=
  if s.vehicleTx.length + frames.length ≤ 16 then { s with vehicleTx := s.vehicleTx ++ frames } else s

/-- The kind code in a vehicle-link identifier, bits 15 to 12 (R173). -/
def VehicleFrame.kind (f : VehicleFrame) : Nat := ((f.id >>> 12).setWidth 4).toNat

/-- Replaces the first complete summary pair of a list of frames, if it holds one (R52 step 1). -/
def replacePair (a b : VehicleFrame) : List VehicleFrame → Option (List VehicleFrame)
  | x :: y :: rest =>
    if x.kind = 0xC ∧ y.kind = 0xD then some (a :: b :: rest)
    else (replacePair a b (y :: rest)).map (x :: ·)
  | _ => none

/-- A summary pair is placed: in the places of an older pair behind the frame in transmission, else at the tail when two
places are free, else discarded (R52). -/
def State.placeSummary (s : State) (a b : VehicleFrame) : State :=
  match s.vehicleTx with
  | [] => s.enqueue [a, b]
  | head :: rest =>
    match replacePair a b rest with
    | some rest' => { s with vehicleTx := head :: rest' }
    | none => s.enqueue [a, b]

/-! ## The chassis transmit slots -/

/-- The kind of the lowest identifier among the frames offered (R124, R180). -/
def ChassisTx.lowestOffered (c : ChassisTx) : Option (Fin 4) :=
  (List.finRange 4).find? fun k => c.slots[k].front.isSome

/-- A frame is handed to the slot of kind k: it waits behind a frame whose transmission has begun, and replaces one whose
transmission has not (R124, log entry 19). -/
def ChassisTx.handOver (c : ChassisTx) (k : Fin 4) (f : ChassisFrame) : ChassisTx :=
  let slot := if c.slots[k].begun then { c.slots[k] with behind := some f } else { c.slots[k] with front := some f }
  { c with slots := c.slots.set k slot }

/-- The kind whose frame is still on the link: none when it has lost arbitration or met a link error, and is offered again
among the filled slots (R124). -/
def ChassisTx.stillOnAir (c : ChassisTx) (lost : Bool) : Option (Fin 4) := if lost then none else c.onAir

/-- The link's doings up to now, k the lowest kind offered: the frame on the link is still there, or the frame of kind k has
begun, or none is on the link (R124, log entry 6). -/
def ChassisTx.settled (c : ChassisTx) (k : Fin 4) (lost begun : Bool) : ChassisTx :=
  match c.stillOnAir lost with
  | some j => { c with onAir := some j }
  | none =>
    if begun then { slots := c.slots.set k { c.slots[k] with begun := true }, onAir := some k }
    else { c with onAir := none }

/-- Before set-point frames are handed over, the link is asked what it has done: its answers are free values (R124, log entry
6). -/
def State.settleOnAir (s : State) : State :=
  match s.chassisTx.lowestOffered with
  | none => s
  | some k =>
    { s with
      chassisTx := s.chassisTx.settled k (Config.transmissionLost s.freeCount) (Config.transmissionBegun s.freeCount)
      freeCount := s.freeCount + 1 }

/-- A frame is sent: the one on the link, or the one of the lowest kind offered when that one is lost or none was on the link;
the frame that waits behind it is offered (R124). -/
def ChassisTx.sent (c : ChassisTx) (lost : Bool) : ChassisTx :=
  match (c.stillOnAir lost).or c.lowestOffered with
  | none => c
  | some k => { slots := c.slots.set k { front := c.slots[k].behind, begun := false, behind := none }, onAir := none }

/-- A frame of the part is sent on the chassis link; whether the one that was on the link got through is a free value (R124, log
entry 6). -/
def State.chassisSent (s : State) : State :=
  match s.chassisTx.lowestOffered with
  | none => s
  | some _ =>
    { s with chassisTx := s.chassisTx.sent (Config.transmissionLost s.freeCount), freeCount := s.freeCount + 1 }

/-! ## The mode and the port -/

/-- The mode changes, and the FALLBACK line with it (R145). -/
def State.setMode (s : State) (m : Mode) : State :=
  { s with ctl := { s.ctl with mode := m, fallback := m.assertsFallback } }

/-- A taken transfer replaces the whole response register, and is no longer in progress (R159, R160). -/
def State.respond (s : State) (st : PortStatus) (value : Half) : State :=
  { s with port := { s.port with response := { status := st, value := value }, input := [] } }

/-- The value of a response the spec gives no value for (R160, R166; log entry 5). -/
def State.respondFree (s : State) (st : PortStatus) : State :=
  { s.respond st (Config.formRefusalValue s.freeCount) with freeCount := s.freeCount + 1 }

/-- The four bytes of the response register as they are shifted out (R160, R182). -/
def Response.bytes (r : Response) : List Byte :=
  let st : Byte := BitVec.ofNat 8 r.status.code
  match halfBytes r.value with
  | [lo, hi] => [st, lo, hi, checkByte st lo hi]
  | _ => []

/-- The bytes of a transfer are clocked in, while as many of the response register, and 00h after them, are clocked out
(R160). -/
def State.clock (s : State) (bytes : List Byte) : State :=
  { s with port := { s.port with
      input := bytes
      out := (s.port.response.bytes ++ List.replicate bytes.length 0).take bytes.length } }

/-- The five health values (R86). -/
def HealthMonitor.values (h : HealthMonitor) : HealthValues :=
  { retarder := h.retarder.value, exhaust := h.exhaust.value, modulator := Vector.ofFn fun j => h.modulator[j].value }

/-- An entry of the health monitor (R83). -/
def HealthMonitor.entry (h : HealthMonitor) : HealthSource → HealthEntry
  | .retarder => h.retarder
  | .exhaust => h.exhaust
  | .modulator j => h.modulator[j]

/-- The health monitor with one entry replaced. -/
def HealthMonitor.put (h : HealthMonitor) (x : HealthSource) (e : HealthEntry) : HealthMonitor :=
  match x with
  | .retarder => { h with retarder := e }
  | .exhaust => { h with exhaust := e }
  | .modulator j => { h with modulator := h.modulator.set j e }

/-- While a reset lasts the part takes no event, and its state stays as the beginning of the reset left it (R146). -/
def State.outsideReset (s : State) (f : State → State) : Host.Outcome State Fault Refusal :=
  .next (if s.inReset then s else f s)

end Sys2Proof.Machine
end

