-- ==== Sys2Proof/Machine/Arbitration.lean ====
section
/-! DEFINITION. The arbiter result of a pass (R63 to R69). -/

namespace Sys2Proof.Machine

/-- A candidate for governing: an ACTIVE record of a demand class (R64). -/
def Record.candidate (r : Record) : Bool := r.state == .active && r.cls.isDemand

/-- Whether r, met later in the age order, governs before q: a larger force, or the same force and a lower class code (R64). -/
def Record.governsBefore (r q : Record) : Bool :=
  q.force < r.force || (r.force == q.force && r.cls.code < q.cls.code)

/-- One step of the choice of the governing record along the age order (R64). -/
def governingStep (slots : Vector Slot 24) (best : Option (SlotId × Record)) (i : SlotId) : Option (SlotId × Record) :=
  match slots[i].record with
  | none => best
  | some r =>
    if r.candidate then
      match best with
      | none => some (i, r)
      | some (k, q) => if r.governsBefore q then some (i, r) else some (k, q)
    else best

/-- The governing record of a demand table, with its slot (R64). -/
def governing (slots : Vector Slot 24) (age : List SlotId) : Option (SlotId × Record) :=
  age.foldl (governingStep slots) none

/-- Fgov: the force of the governing record, 0 when there is none (R64). -/
def fgovOf (g : Option (SlotId × Record)) : Nat := (g.map fun x => x.2.force).getD 0

/-- Fcap: the smallest limit among the ACTIVE STABILITY records, absent when there is none (R65). -/
def stabilityCap (slots : Vector Slot 24) (age : List SlotId) : Option Nat :=
  (age.filterMap fun i => slots[i].record.bind fun r =>
    if r.state == .active && r.cls == .stability then r.limit else none).min?

/-- The inhibit set: the union of the inhibit fields of the listed records (R66). -/
def inhibitSet (slots : Vector Slot 24) (listed : List SlotId) : SourceSet :=
  listed.foldl (fun acc i => acc.union ((slots[i].record.bind Record.inhibit).getD .empty)) .empty

/-- The arbiter result derived from a table and its lists (R64 to R69). -/
def arbitrate (t : Settings) (slots : Vector Slot 24) (age listed : List SlotId) : ArbResult :=
  let g := governing slots age
  let inhibit := inhibitSet slots listed
  { fgov := fgovOf g
    governing := g.map Prod.fst
    cap := stabilityCap slots age
    inhibit := inhibit
    sources := SourceSet.less ((g.map fun x => x.2.sources).getD .all) inhibit
    axles := Vector.ofFn fun j =>
      t.axleConfigured j && !((g.map fun x => x.2.exclusion).getD axleSetEmpty)[j]
    onset := g.bind fun x => x.2.onset.or (t.classOnset x.2.cls) }

end Sys2Proof.Machine
end

