-- ==== Sys2Proof/Machine/Thermal.lean ====
section
/-! DEFINITION. The thermal accounts, fade and bands (R130 to R137), and the duty timer (R140 to R142). -/

namespace Sys2Proof.Machine

/-- Dh_j, the divisor of the heating residue (R130, R132). -/
def heatDivisor (t : Settings) (j : AxleId) : Nat := 36000 * t.cth[j].toNat

/-- Dc_j, the divisor of the cooling residue (R130, R133). -/
def coolDivisor (t : Settings) (j : AxleId) : Nat := 1000 * t.tau[j].toNat

/-- The heating accumulator of an update (R132). -/
def Account.heatAcc (a : Account) (share v dt : Nat) : Nat := a.heatRes + share * v * dt * 16

/-- The cooling accumulator of an update, from T16 before the update's heating (R133). -/
def Account.coolAcc (a : Account) (ambient : Int) (dt : Nat) : Int := a.coolRes + (a.t16 - 16 * ambient) * dt

/-- One update of a set account: heating, cooling truncated toward zero, and the clamp (R132, R133, R134). -/
def Account.update (a : Account) (dh dc : Nat) (share v dt : Nat) (ambient : Int) : Account :=
  let heat := a.heatAcc share v dt
  let cool := a.coolAcc ambient dt
  { t16 := max (-640) (min (a.t16 + (heat / dh : Nat) - cool.tdiv dc) 14400)
    heatRes := heat % dh
    coolRes := cool.tmod dc }

/-- T16 of an account; an unset account is read by no pass, and would give a free value (R138, log entry 7). -/
def accountT16 (j : AxleId) (a : Option Account) : Int := (a.map Account.t16).getD (Config.unsetTemperature j)

/-- The whole-degree temperature Tw = floor(T16 / 16) (R135). -/
def wholeDegrees (t16 : Int) : Int := t16 / 16

/-- The fade factor in 1/256 at a whole-degree temperature (R135). -/
def fadeFactor (t : Settings) (tw : Int) : Nat :=
  if tw < t.ts.toInt then 256
  else if t.te.toInt ≤ tw then t.fadeFloor.toNat
  else (256 - ((256 - (t.fadeFloor.toNat : Int)) * (tw - t.ts.toInt)) / (t.te.toInt - t.ts.toInt)).toNat

/-- The band at a whole-degree temperature (R136). -/
def bandOf (t : Settings) (tw : Int) : Band :=
  if tw < t.ts.toInt then .cool else if tw < t.te.toInt then .warm else .hot

/-- The fade factors of the axles as the accounts stand (R94, R135). -/
def State.fadeFactors (s : State) : Vector Nat 3 :=
  Vector.ofFn fun j => fadeFactor s.settings (wholeDegrees (accountT16 j s.accounts[j]))

/-- The highest T16 among the configured axles (R136). -/
def State.hottestT16 (s : State) : Int :=
  (((List.finRange 3).filter fun j => s.settings.axleConfigured j).map fun j => accountT16 j s.accounts[j]).max?.getD
    (Config.unsetTemperature 0)

/-- The hottest axle's figure floor(T16 / 16) + 40 and band (R125, R136). -/
def State.hottest (s : State) : Hottest :=
  let tw := wholeDegrees s.hottestT16
  { figure := (tw + 40).toNat, band := bandOf s.settings tw }

/-- The thermal update at the end of a pass: every set account of a configured axle (R131). -/
def State.updateThermal (s : State) (shares : Vector Nat 3) (v dt : Nat) (ambient : Int) : State :=
  { s with accounts := Vector.ofFn fun j =>
      if s.settings.axleConfigured j then
        s.accounts[j].map fun a =>
          a.update (heatDivisor s.settings j) (coolDivisor s.settings j) shares[j] v dt ambient
      else s.accounts[j] }

/-- The accounts as an accepted RUN initialises them (R137). -/
def initialAccounts (t : Settings) : Vector (Option Account) 3 :=
  Vector.ofFn fun j =>
    if t.axleConfigured j then some { t16 := 16 * t.initialTemp.toInt, heatRes := 0, coolRes := 0 } else none

/-- The condition of the duty timer (R140). -/
def dutyCondition (fret cret sumF : Nat) : Bool := fret == cret && 0 < cret && 0 < sumF

/-- The run state and count after an update (R141). -/
def DutyTimer.advance (d : DutyTimer) (cond : Bool) (dt : Nat) : DutyTimer :=
  match d.running, cond with
  | false, true => { d with running := true, count := 0 }
  | true, true => { d with count := min (d.count + dt) 6553500 }
  | true, false => { d with running := false }
  | false, false => d

/-- One update of the duty timer, DUTY_WARN set or cleared after it (R141, R142). -/
def DutyTimer.update (d : DutyTimer) (cond : Bool) (dt threshold : Nat) : DutyTimer :=
  let e := d.advance cond dt
  { e with warn := dutyWarn e.running e.count threshold }

end Sys2Proof.Machine
end

