-- ==== Sys2Proof/Machine/Capability.lean ====
section
/-! DEFINITION. Lookup in the characteristic tables and the capability of a pass (R88 to R105). -/

namespace Sys2Proof.Machine

/-- Point k of a table. -/
def pointAt (points : Vector Half 17) (k : Nat) : Nat := (points.toList.getD k 0).toNat

/-- The lookup of a curve table at abscissa x with origin o and pitch p (R92). -/
def lookup (points : Vector Half 17) (o p x : Nat) : Nat :=
  if x ≤ o then pointAt points 0
  else
    let k := (x - o) / p
    let r := (x - o) - k * p
    if 16 ≤ k then pointAt points 16
    else
      let a : Int := pointAt points k
      let b : Int := pointAt points (k + 1)
      (a + (2 * (b - a) * r + p) / (2 * p)).toNat

/-- The pitch of the retarder table in 0.1 km/h (R90). -/
def retarderPitch (t : Settings) : Nat := 40 + 20 * t.retPitch.toNat

/-- The pitch of the exhaust tables in rpm (R90). -/
def exhaustPitch (t : Settings) : Nat := 160 + 80 * t.exhPitch.toNat

/-- The derating factor kr in 1/256; 128 with the mark "oil temperature unknown" (R77, R96). -/
def derating (t : Settings) (oil : Option Int) : Nat :=
  match oil with
  | none => 128
  | some c =>
    if c ≤ t.tder.toInt then 256
    else if t.tcut.toInt ≤ c then 0
    else ((256 * (t.tcut.toInt - c)) / (t.tcut.toInt - t.tder.toInt)).toNat

/-- The health effect on a capability figure: DEGRADED halves it, FAULT withholds it (R85). -/
def healthLimited (h : Health) (x : Nat) : Nat :=
  match h with
  | .ok => x
  | .degraded => x / 2
  | .fault => 0

/-- Cret (R97, by the three steps of R95). -/
def retarderCapability (t : Settings) (x : Sample) (h : Health) (allowed : Bool) : Nat :=
  if allowed then healthLimited h (lookup t.retPoints 0 (retarderPitch t) x.v * derating t x.oil / 256) else 0

/-- Whether R99 leaves the exhaust available in the pass. -/
def exhaustAvailable (x : Sample) (h : Health) (allowed : Bool) : Bool :=
  !x.exhaustMark && x.ratio != 0 && h != .fault && allowed

/-- The stage force Fexh(s) read from a stage's torque table (R98). -/
def stageForce (t : Settings) (points : Vector Half 17) (x : Sample) : Nat :=
  lookup points t.exhOrigin.toNat (exhaustPitch t) x.n * x.ratio / t.rDyn.toNat

/-- A stage force when the stage is available; a stage whose force is 0 is not (R100). -/
def availableForce (allowed : Bool) (force : Nat) : Option Nat := if allowed && 0 < force then some force else none

/-- The adhesion limit of an axle (R102). DESIGN CHOICE (log entry 18): for a substitute load above 254, which R78 allows, the
formula stands and the result is not held to the maximum R102 names. -/
def adhesionLimit (t : Settings) (load : Nat) : Nat := 981 * load * t.mu.toNat / 10000

/-- The brake limit of axle j at fade factor f (R103). -/
def brakeLimit (t : Settings) (j : AxleId) (f : Nat) : Nat := t.pmax[j].toNat * t.gain[j].toNat * f / 25600

/-- Csvc_j (R104); an axle that is not configured has none (R105). DESIGN CHOICE (log entry 18): a substitute load of 255 to 280
(R78) may take it past the 2491 of R104, and no clamp is applied. -/
def axleCapability (t : Settings) (j : AxleId) (load f : Nat) (h : Health) (allowed : Bool) : Nat :=
  if t.axleConfigured j && allowed then healthLimited h (min (brakeLimit t j f) (adhesionLimit t load)) else 0

/-- The capability of a pass (R94): from its sample, its health values, its source set, and the fade factors read. -/
def capability (t : Settings) (x : Sample) (h : HealthValues) (sources : SourceSet) (fade : Vector Nat 3) : Capability :=
  let exhaust := exhaustAvailable x h.exhaust sources.exh
  { cret := retarderCapability t x h.retarder sources.ret
    exhaust := exhaust
    stage1 := availableForce exhaust (stageForce t t.stage1Points x)
    stage2 := availableForce (exhaust && h.exhaust == .ok) (stageForce t t.stage2Points x)
    csvc := Vector.ofFn fun j => axleCapability t j x.loads[j] fade[j] h.modulator[j] sources.svc
    candidate := Vector.ofFn fun j => t.axleConfigured j && h.modulator[j] != .fault
    fade := fade }

end Sys2Proof.Machine
end

