-- ==== Sys2Proof/Machine/Apportion.lean ====
section
/-! DEFINITION. The stages of the apportionment pass: target, ramp, cap, exhaust stage, retarder share, distribution and
pressures (R109 to R122). -/

namespace Sys2Proof.Machine

/-! ## Target, ramp and cap -/

/-- The target of a pass (R110). -/
def target (fgov : Nat) : Nat := min fgov 2500

/-- The direction of a pass (R111). -/
def rampDirection (t fcmd : Nat) : RampDir := if fcmd < t then .up else if t < fcmd then .down else .level

/-- The commanded total and the ramp residue. -/
structure Ramp where
  fcmd : Nat
  rho  : Nat
  deriving DecidableEq, Repr

/-- A rated step toward the target (R112). -/
def ratedStep (dir : RampDir) (rate dt t fcmd rho : Nat) : Ramp :=
  let acc := rate * dt + rho
  let step := acc / 1000
  let next := match dir with
    | .up => min t (fcmd + step)
    | .down => max t (fcmd - step)
    | .level => fcmd
  { fcmd := next, rho := if next = t then 0 else acc % 1000 }

/-- The ramp stage (R111, R112): `rho` is the stored residue, `prev` the stored direction. An UP pass always has an onset
rate (R111), and an onset rate of 0 is unlimited. -/
def ramp (prev : RampDir) (onset : Option Nat) (release dt t fcmd rho : Nat) : Ramp :=
  let dir := rampDirection t fcmd
  let rho := if dir = prev then rho else 0
  match dir with
  | .level => { fcmd := fcmd, rho := 0 }
  | .down => ratedStep .down release dt t fcmd rho
  | .up =>
    match onset with
    | none => { fcmd := fcmd, rho := rho }
    | some 0 => { fcmd := t, rho := 0 }
    | some rate => ratedStep .up rate dt t fcmd rho

/-- The cap stage (R113). -/
def Ramp.capped (x : Ramp) (cap : Option Nat) : Ramp :=
  match cap with
  | some c => if c < x.fcmd then { fcmd := c, rho := 0 } else x
  | none => x

/-! ## The exhaust stage -/

/-- The force of a stage when it is available, stage 0 always with force 0 (R98, R100). -/
def Capability.stage (c : Capability) (s : Fin 3) : Option Nat :=
  match s with
  | 0 => some 0
  | 1 => c.stage1
  | 2 => c.stage2

/-- Whether a stage is available and its force fits within an amount. -/
def Capability.fits (c : Capability) (s : Fin 3) (amount : Nat) : Bool := (c.stage s).any (· ≤ amount)

/-- s_up: the highest available stage whose force is at most Fcmd (R114). -/
def Capability.stageUp (c : Capability) (fcmd : Nat) : Fin 3 :=
  if c.fits 2 fcmd then 2 else if c.fits 1 fcmd then 1 else 0

/-- The stage of the pass (R114, R115). -/
def Capability.chooseStage (c : Capability) (current : Fin 3) (fcmd hysteresis : Nat) : Fin 3 :=
  if c.exhaust then
    let up := c.stageUp fcmd
    if current ≤ up then up
    else if c.fits current (fcmd + hysteresis) && 0 < fcmd then current
    else up
  else 0

/-- The force of the stage of the pass (R115). -/
def Capability.force (c : Capability) (s : Fin 3) : Nat := (c.stage s).getD 0

/-! ## The distribution among the axles -/

/-- The weights of a round: those of the candidates in A, 0 for the other axles (R118, R119). -/
def weightsIn (w : Vector Nat 3) (a : AxleSet) : Vector Nat 3 := Vector.ofFn fun j => if a[j] then w[j] else 0

/-- The sum of the figures of the three axles. -/
def sum3 (x : Vector Nat 3) : Nat := x[0] + x[1] + x[2]

/-- The candidates of A whose rounding remainder comes before that of axle j: larger, or equal with a lower index (R119). -/
def rankOf (a : AxleSet) (rem : Vector Nat 3) (j : AxleId) : Nat :=
  ((List.finRange 3).filter fun k => a[k] && (rem[j] < rem[k] || (rem[k] == rem[j] && k < j))).length

/-- What each axle receives when a round places amount q among the candidates of A, whose weights sum to more than 0: the
floors, and the units left over by largest rounding remainder (R119). -/
def roundShares (w : Vector Nat 3) (a : AxleSet) (q : Nat) : Vector Nat 3 :=
  let x := weightsIn w a
  let total := sum3 x
  let floors : Vector Nat 3 := Vector.ofFn fun j => q * x[j] / total
  let rem : Vector Nat 3 := Vector.ofFn fun j => q * x[j] % total
  let left := q - sum3 floors
  Vector.ofFn fun j => floors[j] + if a[j] && rankOf a rem j < left then 1 else 0

/-- The shares placed so far and the amount that no axle took. -/
structure Placed where
  shares   : Vector Nat 3
  unplaced : Nat
  deriving DecidableEq, Repr

/-- The sharing rounds of R120, at most `fuel` of them: a pass makes at most three. -/
def sharingRounds (w csvc : Vector Nat 3) : Nat → AxleSet → Nat → Vector Nat 3 → Placed
  | 0, _, q, shares => { shares := shares, unplaced := q }
  | fuel + 1, a, q, shares =>
    if sum3 (weightsIn w a) = 0 then { shares := shares, unplaced := q }
    else
      let got := roundShares w a q
      let raised : Vector Nat 3 := Vector.ofFn fun j => shares[j] + got[j]
      let past : AxleSet := Vector.ofFn fun j => a[j] && csvc[j] < raised[j]
      let pool := sum3 (Vector.ofFn fun j => if past[j] then raised[j] - csvc[j] else 0)
      let held : Vector Nat 3 := Vector.ofFn fun j => if past[j] then csvc[j] else raised[j]
      if pool = 0 then { shares := held, unplaced := 0 }
      else sharingRounds w csvc fuel (Vector.ofFn fun j => a[j] && !past[j]) pool held

/-- The axle distribution of the remainder r (R118 to R121). -/
def distribute (w csvc : Vector Nat 3) (candidates : AxleSet) (r : Nat) : Placed :=
  if r = 0 then { shares := Vector.replicate 3 0, unplaced := 0 }
  else sharingRounds w csvc 3 candidates r (Vector.replicate 3 0)

/-! ## Pressures -/

/-- The quotient rounded toward plus infinity (00, Arithmetic). -/
def ceilDiv (a b : Nat) : Nat := (a + b - 1) / b

/-- Rounded up to a multiple of 5 (00, Arithmetic). -/
def upToFive (x : Nat) : Nat := (x + 4) / 5 * 5

/-- The pressure set-point of a share F_j (R122). -/
def pressureOf (t : Settings) (j : AxleId) (f share : Nat) : Nat :=
  if share = 0 then 0
  else min (upToFive (ceilDiv (share * 25600) (t.gain[j].toNat * f))) t.pmax[j].toNat

/-! ## The figures of a pass -/

/-- The figures of a pass (R109): what it writes, hands over and reports. -/
structure Figures where
  fcmd      : Nat
  rho       : Nat
  dir       : RampDir
  stage     : Fin 3
  fexh      : Nat
  overshoot : Nat
  fret      : Nat
  shares    : Vector Nat 3
  shortfall : Nat
  pressure  : Vector Nat 3
  deriving DecidableEq, Repr

/-- The candidates of the distribution (R118). -/
def Pass.candidates (p : Pass) : AxleSet := Vector.ofFn fun j => p.arb.axles[j] && p.cap.candidate[j]

/-- The weights w_j = L_j × f_j (R118). DESIGN CHOICE (log entry 18): a substitute load of 255 to 280 is not clamped, and gives a
weight above the greatest one that R118 states. -/
def Pass.weights (p : Pass) : Vector Nat 3 := Vector.ofFn fun j => p.sample.loads[j] * p.cap.fade[j]

/-- The commanded total after the ramp and the cap (R110 to R113). -/
def Pass.total (p : Pass) (t : Settings) (x : Apportioner) : Ramp :=
  (ramp x.dir p.arb.onset t.releaseRate.toNat p.sample.dt (target p.arb.fgov) x.fcmd x.rho).capped p.arb.cap

/-- The stages of a pass, in the order of R109. -/
def Pass.figures (p : Pass) (t : Settings) (x : Apportioner) : Figures :=
  let total := p.total t x
  let stage := p.cap.chooseStage p.currentStage total.fcmd t.hysteresis.toNat
  let fexh := p.cap.force stage
  let fret := min (total.fcmd - fexh) p.cap.cret
  let placed := distribute p.weights p.cap.csvc p.candidates (total.fcmd - fexh - fret)
  { fcmd := total.fcmd
    rho := total.rho
    dir := rampDirection (target p.arb.fgov) x.fcmd
    stage := stage
    fexh := fexh
    overshoot := fexh - total.fcmd
    fret := fret
    shares := placed.shares
    shortfall := placed.unplaced
    pressure := Vector.ofFn fun j => pressureOf t j p.cap.fade[j] placed.shares[j] }

/-- ΣF_j (R121). -/
def Figures.sumF (f : Figures) : Nat := sum3 f.shares

/-- The force delivered, D = Fcmd − S + O (R23, R121). -/
def Figures.delivered (f : Figures) : Nat := f.fcmd - f.shortfall + f.overshoot

/-- The signed figure of SUMMARY B: S, or the negative of O, or 0 (R125). -/
def Figures.balance (f : Figures) : Int := if 0 < f.shortfall then f.shortfall else -(f.overshoot : Int)

end Sys2Proof.Machine
end

