-- ==== Sys2Proof/Machine/Frames.lean ====
section
/-! DEFINITION. The layouts of the frames the part sends (R48, R49, R173 to R180), and the answering of messages. -/

namespace Sys2Proof.Machine

/-! ## The vehicle link -/

/-- A vehicle-link identifier of the part: the tag in force, kind, node, handle, zero field (R173). -/
def vehicleId (tag : Half) (kind node handle : BitVec 4) : BitVec 29 :=
  tag.setWidth 13 ++ kind ++ node ++ handle ++ 0#4

/-- A number as a byte. -/
def byte (n : Nat) : Byte := BitVec.ofNat 8 n

/-- A number as a 16-bit field, least significant byte first (00, Conventions). -/
def halfOf (n : Nat) : List Byte := halfBytes (BitVec.ofNat 16 n)

/-- What an ANSWER says besides the state it reads at the end of the taking (R48). -/
structure Reply where
  code    : ResultCode
  clamped : Bool
  kinds   : List QualKind
  slot    : Option SlotId
  deriving DecidableEq, Repr

/-- A refusal: CLAMPED clear, no kinds applied (R30, R46). -/
def Reply.refusal (code : ResultCode) (slot : Option SlotId) : Reply :=
  { code := code, clamped := false, kinds := [], slot := slot }

/-- Byte 2 of an ANSWER: CLAMPED in bit 0, the kinds applied in bits 1 to 4 (R176). -/
def Reply.flags (r : Reply) : Nat :=
  r.clamped.toNat + 2 * (decide (QualKind.sources ∈ r.kinds)).toNat + 4 * (decide (QualKind.axles ∈ r.kinds)).toNat
    + 8 * (decide (QualKind.onset ∈ r.kinds)).toNat + 16 * (decide (QualKind.inhibit ∈ r.kinds)).toNat

/-- The cover of the record in a slot, UNSERVED for a FREE one (R48). -/
def Slot.cover (x : Slot) : Cover := (x.record.map Record.cover).getD .unserved

/-- Bytes 4 to 7 of an ANSWER: slot, state, version and cover as they stand, or none (R48, R176). -/
def State.slotBytes (s : State) : Option SlotId → List Byte
  | some i =>
    [byte i, byte (recStateCode ((s.record i).map Record.state)), (s.slot i).version, byte (s.slot i).cover.code]
  | none => [0xFF, 0, 0, 0]

/-- The ANSWER frame to a message, formed at the end of its taking (R48, R175, R176). -/
def State.answerFrame (s : State) (k : MsgKind) (n : Node) (hf : HandleField) (r : Reply) : VehicleFrame :=
  { id := vehicleId s.settings.protocolTag 0xA (BitVec.ofNat 4 n) (BitVec.ofNat 4 hf)
    data := [byte k.code, byte r.code.code, byte r.flags, byte (s.quals n).length] ++ s.slotBytes r.slot }

/-- The ANSWER is queued at the end of the taking (R48, R51). -/
def State.answer (s : State) (k : MsgKind) (n : Node) (hf : HandleField) (r : Reply) : State :=
  s.enqueue [s.answerFrame k n hf r]

/-- Part 1 of a record report (R177). -/
def Record.reportPart1 (r : Record) (i : SlotId) (version : BitVec 8) : List Byte :=
  [byte i, version,
   byte (r.owner + 16 * r.cls.code + 128 * r.shared.toNat),
   byte (recStateCode (some r.state) + 8 * r.cover.code + 32 * axleMask r.exclusion)]
  ++ halfOf r.force ++ halfOf (r.limit.getD 0xFFFF)

/-- Part 2 of a record report (R177): the countdown in 10 ms, rounded down. -/
def Record.reportPart2 (r : Record) (i : SlotId) (version : BitVec 8) (countdown : Nat) : List Byte :=
  [byte (i + 128), version,
   byte (r.sources.mask + 16 * (r.inhibit.getD .empty).mask),
   byte r.leasePeriod, byte (r.nextLease.getD 0), byte (countdown / 10)]
  ++ halfOf (r.onset.getD 0xFFFF)

/-- The two frames of the record report of slot i in answer to node n (R49, R175, R177). -/
def State.reportFrames (s : State) (n : Node) (i : SlotId) (r : Record) : List VehicleFrame :=
  let id := vehicleId s.settings.protocolTag 0xB (BitVec.ofNat 4 n) (BitVec.ofNat 4 r.handle)
  [{ id := id, data := r.reportPart1 i (s.slot i).version },
   { id := id, data := r.reportPart2 i (s.slot i).version ((s.slot i).countdown.getD 0) }]

/-- What SUMMARY A carries (R125, R157). -/
structure SummaryA where
  count     : BitVec 8
  mode      : Mode
  stage     : Fin 3
  dutyWarn  : Bool
  fallback  : Bool
  fgov      : Nat
  fcmd      : Nat
  governing : Option SlotId
  deriving DecidableEq, Repr

/-- The data of SUMMARY A (R178). -/
def SummaryA.data (a : SummaryA) : List Byte :=
  [a.count, byte (a.mode.code + 16 * a.stage + 64 * a.dutyWarn.toNat + 128 * a.fallback.toNat)]
  ++ halfOf a.fgov ++ halfOf a.fcmd ++ [byte ((a.governing.map Fin.val).getD 0xFF), 0]

/-- What SUMMARY B carries (R125, R157): `balance` is the signed shortfall and overshoot figure. -/
structure SummaryB where
  count   : BitVec 8
  fret    : Nat
  sumF    : Nat
  balance : Int
  hottest : Hottest
  listed  : Nat
  waiting : Bool
  deriving DecidableEq, Repr

/-- The data of SUMMARY B (R179). -/
def SummaryB.data (b : SummaryB) : List Byte :=
  let tail : BitVec 24 := 0#1 ++ BitVec.ofNat 10 b.hottest.figure ++ BitVec.ofInt 13 b.balance
  [b.count] ++ halfOf (b.fret % 4096 + 4096 * b.hottest.band.code + 16384 * b.waiting.toNat)
  ++ halfOf (b.sumF % 4096 + 4096 * b.listed)
  ++ [tail.setWidth 8, (tail >>> 8).setWidth 8, (tail >>> 16).setWidth 8]

/-- A summary pair is handed to the vehicle transmit queue (R52); both frames carry node 0 and handle 0 (R175). -/
def State.handSummary (s : State) (a : SummaryA) (b : SummaryB) : State :=
  s.placeSummary { id := vehicleId s.settings.protocolTag 0xC 0 0, data := a.data }
    { id := vehicleId s.settings.protocolTag 0xD 0 0, data := b.data }

/-! ## The chassis link -/

/-- The RET/EXH set-point frame (R124, R180). -/
def retExhFrame (p : SetPoints) (count : BitVec 8) : ChassisFrame :=
  { id := 0x100, data := halfOf p.ret ++ [byte p.stage, count] }

/-- The AXLE set-point frame of axle j (R124, R180). -/
def axleFrame (j : AxleId) (p : SetPoints) (count : BitVec 8) : ChassisFrame :=
  { id := BitVec.ofNat 11 (0x101 + j), data := [byte j] ++ halfOf p.pressure[j] ++ [count] }

/-- The transmit slot of axle j's frames (R180: each AXLE identifier is a kind of its own). -/
def axleKind (j : AxleId) : Fin 4 := j.succ

/-- The set-point frames formed from the last set-points are handed to the chassis link controller, one RET/EXH frame and
one AXLE frame per configured axle (R124). -/
def State.handSetPoints (s : State) : State :=
  let t := s.settleOnAir
  let first := t.chassisTx.handOver 0 (retExhFrame t.app.last t.app.passCount)
  { t with chassisTx := (List.finRange 3).foldl (fun c j =>
      if t.settings.axleConfigured j then c.handOver (axleKind j) (axleFrame j t.app.last t.app.passCount) else c) first }

end Sys2Proof.Machine
end

