-- ==== Sys2Proof/Machine/Modes.lean ====
section
/-! DEFINITION. The mode controller: pass reports, missed periods, reissue and fallback set-points (08, R144 to R158). -/

namespace Sys2Proof.Machine

/-- The report that a pass has started with a valid sample (R149, R151, R158). -/
def State.reportPass (s : State) : State :=
  match s.ctl.mode with
  | .setup => s
  | .startup => s.setMode .normal
  | .normal => s
  | .hold => s.setMode .normal
  | .loss | .failsafe =>
    if s.ctl.recovery + 1 < 3 then { s with ctl := { s.ctl with recovery := s.ctl.recovery + 1 } }
    else { s with ctl := { s.ctl with recovery := 0, lossHold := none } }.setMode .normal

/-- The last set-points after the health effects of a reissue (R153). -/
def SetPoints.reissued (p : SetPoints) (h : HealthValues) : SetPoints :=
  { ret := if h.retarder = .fault then 0 else p.ret
    stage := match h.exhaust with
      | .fault => 0
      | .degraded => if p.stage = 2 then 1 else p.stage
      | .ok => p.stage
    pressure := Vector.ofFn fun j => if h.modulator[j] = .fault then 0 else p.pressure[j] }

/-- A reissue: the last set-points after the health effects are written back and handed over again (R153). -/
def State.reissue (s : State) : State :=
  { s with app := { s.app with last := s.app.last.reissued s.health.values } }.handSetPoints

/-- The fallback share of axle j (R154 step 4); an axle that is not configured has none. -/
def fallbackShare (t : Settings) (h : HealthValues) (fgov : Nat) (j : AxleId) : Nat :=
  if t.axleConfigured j && h.modulator[j] != .fault then fgov * t.split[j].toNat / 100 else 0

/-- The fallback pressure of a share, with the cold-lining gain (R154 step 4). -/
def fallbackPressure (t : Settings) (j : AxleId) (share : Nat) : Nat :=
  if share = 0 then 0 else min (upToFive (ceilDiv (share * 100) t.gain[j].toNat)) t.pmax[j].toNat

/-- The retarder force and σ after one step of a fallback (R156). -/
def fallbackRetarder (t : Settings) (h : Health) (force sigma : Nat) : Nat × Nat :=
  if h = .fault then (0, 0)
  else
    let acc := t.releaseRate.toNat * t.sampleTimeout.toNat + sigma
    let next := force - acc / 1000
    (next, if next = 0 then 0 else acc % 1000)

/-- The fallback set-points written at a sample-timer expiry in FAILSAFE, and the new σ (R154 steps 1 to 5). -/
def State.fallbackSetPoints (s : State) (fgov : Nat) : SetPoints × Nat :=
  let h := s.health.values
  let step := fallbackRetarder s.settings h.retarder s.app.last.ret s.ctl.sigma
  ({ ret := step.1
     stage := 0
     pressure := Vector.ofFn fun j => fallbackPressure s.settings j (fallbackShare s.settings h fgov j) }, step.2)

/-- Fallback set-points are formed, handed over and reported (R154, R156, R157). -/
def State.fallback (s : State) : State :=
  let g := governing s.demand.slots s.demand.age
  let fgov := fgovOf g
  let next := s.fallbackSetPoints fgov
  let t := { s with
    app := { s.app with last := next.1 }
    ctl := { s.ctl with sigma := next.2 } }.handSetPoints
  t.handSummary
    { count := t.app.passCount, mode := t.ctl.mode, stage := 0, dutyWarn := t.duty.warn, fallback := t.ctl.fallback
      fgov := fgov, fcmd := t.app.fcmd, governing := g.map Prod.fst }
    { count := t.app.passCount, fret := next.1.ret
      sumF := sum3 (Vector.ofFn fun j => fallbackShare s.settings s.health.values fgov j)
      balance := 0, hottest := t.hottest, listed := t.arbiter.listed.length, waiting := !t.arbiter.waiting.isEmpty }

/-- The recovery count is set to 0 (R152, R154). -/
def State.clearRecovery (s : State) : State := { s with ctl := { s.ctl with recovery := 0 } }

/-- A missed period reaches the mode controller (R151, R152, R154). It cannot reach SETUP or STARTUP (R149). -/
def State.missedPeriod (s : State) : State :=
  match s.ctl.mode with
  | .setup => s
  | .startup => s
  | .normal => s.setMode .hold
  | .hold =>
    let t := s.clearRecovery.setMode .loss
    { t with ctl := { t.ctl with lossHold := some t.settings.lossHold.toNat } }.reissue
  | .loss => s.clearRecovery.reissue
  | .failsafe => s.clearRecovery.fallback

/-- The loss hold timer expires in LOSS (R154). -/
def State.lossHoldExpires (s : State) : State :=
  { s with ctl := { s.ctl with lossHold := none, sigma := 0 } }.setMode .failsafe

end Sys2Proof.Machine
end

