-- ==== Sys2Proof/Machine/Samples.lean ====
section
/-! DEFINITION. The sample intake: pairing, Δt, field validity and substitutes (04, R72 to R82), and the start of a pass
(06, R106, R107). -/

namespace Sys2Proof.Machine

/-- Δt of a sample against the last-used timestamp; none for a duplicate (R74). -/
def deltaT (lastUsed : Option Half) (ts : Half) : Option Nat :=
  match lastUsed with
  | none => some 10
  | some u => if ts = u then none else some (min (ts - u).toNat 50)

/-- A temperature byte with offset +40, valid up to a bound (R77). -/
def tempOf (b : Byte) (bound : Nat) : Option Int := if b.toNat ≤ bound then some ((b.toNat : Int) - 40) else none

/-- The loads of a sample: as received, or for every configured axle the substitute when a configured load is FFh (R78). -/
def sampleLoads (t : Settings) (loads : Vector Byte 3) : Vector Nat 3 :=
  let bad := (List.finRange 3).any fun j => t.axleConfigured j && loads[j] == 0xFF
  Vector.ofFn fun j =>
    if bad && t.axleConfigured j then t.nominalMass.toNat * t.split[j].toNat / 100 else loads[j].toNat

/-- The complete sample of a pending A and its B, none when it is a duplicate or its v is invalid (R73 to R78). -/
def State.completeSample (s : State) (a : FrameA) (b : FrameB) : Option Sample :=
  match deltaT s.intake.lastUsed a.ts with
  | none => none
  | some dt =>
    if a.v.toNat ≤ 1500 then
      some
        { ts := a.ts, v := a.v.toNat, n := a.n.toNat, ratio := a.ratio.toNat
          exhaustMark := 4000 < a.n.toNat || 5000 < a.ratio.toNat
          oil := tempOf b.oil 250
          ambient := (tempOf b.ambient 125).getD s.intake.lastAmbient
          loads := sampleLoads s.settings b.loads
          dt := dt }
    else none

/-- The pass that starts with a sample: its snapshot, the arbiter result, the capability, and the stage of the last set-points,
from which its stage choice starts (R63, R94, R106, R107, R108). -/
def State.newPass (s : State) (x : Sample) : Pass :=
  let arb := arbitrate s.settings s.demand.slots s.demand.age s.arbiter.listed
  { sample := x
    slots := s.demand.slots
    age := s.demand.age
    listed := s.arbiter.listed
    waiting := s.arbiter.waiting
    health := s.health.values
    arb := arb
    cap := capability s.settings x s.health.values arb.sources s.fadeFactors
    hottest := s.hottest
    currentStage := s.app.last.stage
    fromFailsafe := s.ctl.mode = .failsafe }

/-- A pass starts: the last-used timestamp is set, every non-FREE slot gets the snapshot mark, and the mode controller takes
the report (R79, R107). -/
def State.startPass (s : State) (x : Sample) : State :=
  { s with
    intake := { s.intake with lastUsed := some x.ts }
    pass := some (s.newPass x) }.mapSlots (fun y => { y with mark := y.record.isSome }) |>.reportPass

/-- A valid complete sample: the sample timer restarts, the last valid values are stored, and the sample starts a pass or is
held (R79, R80, R81). An invalid Tamb leaves the last valid Tamb as it stands, which is the one the sample carries (R77). -/
def State.takeSample (s : State) (x : Sample) : State :=
  let t := { s with intake := { s.intake with
    timer := some s.settings.sampleTimeout.toNat
    lastV := some x.v
    lastAmbient := x.ambient } }
  match t.pass with
  | none => t.startPass x
  | some _ => { t with intake := { t.intake with held := some x } }

/-- A frame A is stored as the pending A, outside SETUP (R71, R72). -/
def State.takeFrameA (s : State) (a : FrameA) : State :=
  if s.ctl.mode = .setup then s else { s with intake := { s.intake with pendingA := some a } }

/-- A frame B completes the pending A of its timestamp or is discarded, outside SETUP (R71, R73, R75). -/
def State.takeFrameB (s : State) (b : FrameB) : State :=
  if s.ctl.mode = .setup then s
  else
    match s.intake.pendingA with
    | none => s
    | some a =>
      if a.ts = b.ts then
        let t := { s with intake := { s.intake with pendingA := none } }
        match t.completeSample a b with
        | none => t
        | some x => t.takeSample x
      else s

/-- The health source an actuator byte names: 0, 1 and 2 + j; one in use names no axle that is not configured (R83, R180,
R181). -/
def healthSourceOf (t : Settings) (actuator : Byte) : Option HealthSource :=
  match actuator.toNat with
  | 0 => some .retarder
  | 1 => some .exhaust
  | 2 => if t.axleConfigured 0 then some (.modulator 0) else none
  | 3 => if t.axleConfigured 1 then some (.modulator 1) else none
  | 4 => if t.axleConfigured 2 then some (.modulator 2) else none
  | _ => none

/-- Health codes (R180). -/
def healthOfCode (code : Byte) : Option Health :=
  match code.toNat with
  | 0 => some .ok | 1 => some .degraded | 2 => some .fault
  | _ => none

/-- A health frame is recorded and restarts its entry's status timer, outside SETUP (R71, R83, R84). -/
def State.takeHealth (s : State) (actuator code : Byte) : State :=
  if s.ctl.mode = .setup then s
  else
    match healthSourceOf s.settings actuator, healthOfCode code with
    | some x, some v =>
      { s with health := s.health.put x { value := v, timer := some s.settings.statusTimeout.toNat } }
    | _, _ => s

/-- A status timer expires: the entry becomes FAULT and its timer stops (R84). -/
def State.statusExpires (s : State) (x : HealthSource) : State :=
  { s with health := s.health.put x .silent }

/-- The sample timer expires: it restarts at once, and one missed period is reported (R81). -/
def State.sampleTimerExpires (s : State) : State :=
  { s with intake := { s.intake with timer := some s.settings.sampleTimeout.toNat } }.missedPeriod

end Sys2Proof.Machine
end

