-- ==== Sys2Proof/Machine/Chassis.lean ====
section
/-! DEFINITION. The meanings of the chassis-link commands: sample and health frames, the ignored frame, the frame sent. -/

namespace Sys2Proof.Machine

/-- SAMPLE_FRAME_A (R71, R72). -/
def execSampleFrameA (ts v n ratio : Half) (s : State) : Host.Outcome State Fault Refusal :=
  s.outsideReset fun s => s.takeFrameA { ts := ts, v := v, n := n, ratio := ratio }

/-- SAMPLE_FRAME_B (R71, R73 to R80). -/
def execSampleFrameB (ts : Half) (oil ambient load0 load1 load2 : Byte) (s : State) : Host.Outcome State Fault Refusal :=
  s.outsideReset fun s => s.takeFrameB { ts := ts, oil := oil, ambient := ambient, loads := #v[load0, load1, load2] }

/-- HEALTH_FRAME (R71, R83). -/
def execHealthFrame (actuator code : Byte) (s : State) : Host.Outcome State Fault Refusal :=
  s.outsideReset fun s => s.takeHealth actuator code

/-- A chassis-link frame is handed to the block of its kind, or reaches none (R71, R181). -/
def State.takeChassisFrame (s : State) (f : CanFrame) : State :=
  match decodeChassisFrame f with
  | some (.sampleFrameA ts v n ratio) => s.takeFrameA { ts := ts, v := v, n := n, ratio := ratio }
  | some (.sampleFrameB ts oil ambient l0 l1 l2) =>
    s.takeFrameB { ts := ts, oil := oil, ambient := ambient, loads := #v[l0, l1, l2] }
  | some (.healthFrame actuator code) => s.takeHealth actuator code
  | _ => s

/-- CHASSIS_FRAME_IGNORED (R181): a frame that is not handed on changes nothing; one that is handed on is the frame it spells
(log entry 8). -/
def execChassisFrameIgnored (frame : CanFrame) (s : State) : Host.Outcome State Fault Refusal :=
  s.outsideReset fun s => s.takeChassisFrame frame

/-- CHASSIS_FRAME_SENT (R124). With every slot empty no frame is in transmission, and the event does not happen (log entry
4). -/
def execChassisFrameSent (s : State) : Host.Outcome State Fault Refusal :=
  s.outsideReset State.chassisSent

end Sys2Proof.Machine
end

