-- ==== Sys2Proof/Machine/Messages.lean ====
section
/-! DEFINITION. The checks and the effects of the requester messages (02, R28 to R49). -/

namespace Sys2Proof.Machine

/-- A refusal found by a message's checks: the result code and the slot its answer carries (R30, R48). -/
structure Denied where
  code : ResultCode
  slot : Option SlotId
  deriving DecidableEq, Repr

/-- Whether every qualifier of a latch is valid for a class (R46, R47). -/
def qualsValid (t : Settings) (c : RecClass) (quals : List Qualifier) : Bool := quals.all (Qualifier.validFor t c)

/-- The fields of a message that carries force, limit and lease period from byte k on, after the clamps (R31, R174). -/
def carriedFull (row : ClassRow) (data : List Byte) (k : Nat) : Carried :=
  { force := clampForce (halfAt data k)
    limit := some (clampLimit (halfAt data (k + 2)))
    lease := some (clampLease row (byteAt data (k + 4)))
    clamped := forceClamped (halfAt data k) || limitClamped (halfAt data (k + 2)) || leaseClamped row (byteAt data (k + 4)) }

/-- The fields of a compact AMEND (R31, R174). -/
def carriedCompact (data : List Byte) : Carried :=
  { force := clampForce (halfAt data 0), limit := none, lease := none, clamped := forceClamped (halfAt data 0) }

/-- The class table row of a class. -/
def Settings.row (t : Settings) (c : RecClass) : ClassRow := t.classRows[c.row]

/-! ## OPEN -/

/-- What an admitted OPEN does: the slot of the STALE record it replaces, if any (R6), the slot it takes, and the new record
before its admission test (R32). -/
structure OpenPlan where
  replaced : Option SlotId
  slot     : SlotId
  record   : Record
  clamped  : Bool
  deriving DecidableEq, Repr

/-- The record an OPEN creates: the carried fields and the class defaults, then the qualifiers (R5, R32). -/
def newRecord (t : Settings) (n : Node) (h : Fin 4) (c : RecClass) (shared : Bool) (x : Carried) (quals : List Qualifier) :
    Record :=
  quals.foldl Record.qualified
    { owner := n, handle := h, cls := c, shared := shared, state := .active
      force := x.force, limit := x.limit.getD none
      sources := .ofMask (t.row c).sources, exclusion := axleSetEmpty
      onset := none, inhibit := t.defaultInhibit c
      leasePeriod := x.lease.getD 0, nextLease := none, cover := .unserved }

/-- The class an OPEN carries, when its code is at most 5 and in the sender's class rights (R33 check 4, R56). -/
def openClass (t : Settings) (n : Node) (data : List Byte) : Option RecClass :=
  (RecClass.ofCode (byteAt data 0).toNat).filter (rightsHold t.classRights[n])

/-- The slot an OPEN takes: the lowest that is FREE, or that becomes so when a STALE record is replaced (R1, R6). -/
def State.openSlot (s : State) (replaced : Option SlotId) : Option SlotId :=
  lowestSlot fun i => (s.record i).isNone || replaced == some i

/-- The checks of an OPEN, in the order of R33. -/
def State.openCheck (s : State) (n : Node) (hf : HandleField) (data : List Byte) : Except Denied OpenPlan :=
  if s.ctl.mode = .setup then .error ⟨.notRunning, none⟩
  else
    match asHandle hf with
    | none => .error ⟨.badHandle, none⟩
    | some h =>
      if data.length < 7 then .error ⟨.badLength, none⟩
      else
        match openClass s.settings n data with
        | none => .error ⟨.noRights, none⟩
        | some c =>
          let old := s.findHandle n h
          if old.any fun i => (s.record i).any Record.live then .error ⟨.handleInUse, old⟩
          else
            match s.openSlot old with
            | none => .error ⟨.tableFull, none⟩
            | some i =>
              let x := carriedFull (s.settings.row c) data 2
              if !x.fitsClass c then .error ⟨.classField, old⟩
              else if !qualsValid s.settings c (s.quals n) then .error ⟨.classField, old⟩
              else
                .ok
                  { replaced := old, slot := i, clamped := x.clamped
                    record := newRecord s.settings n h c ((byteAt data 1).getLsbD 0) x (s.quals n) }

/-- The record changes of an admitted OPEN: the STALE record on the handle is freed (R6), the new record is created and
takes its state (R5). -/
def State.openAdmit (s : State) (p : OpenPlan) : State :=
  let t := match p.replaced with
    | some k => s.freeSlot k
    | none => s
  (t.createRecord p.slot p.record).admissionTest p.slot

/-- QUEUED when the record in slot i stands in WAITING, ACCEPTED otherwise (R5, R32, R35). -/
def State.admissionCode (s : State) (i : SlotId) : ResultCode :=
  if (s.record i).any fun r => r.state == .waiting then .queued else .accepted

/-- An OPEN is taken whole (R28, R32, R46). -/
def State.takeOpen (s : State) (n : Node) (hf : HandleField) (data : List Byte) : State :=
  match s.openCheck n hf data with
  | .error d => (s.emptyLatch n).answer .openRecord n hf (.refusal d.code d.slot)
  | .ok p =>
    let t := (s.emptyLatch n).openAdmit p
    t.answer .openRecord n hf
      { code := t.admissionCode p.slot, clamped := p.clamped, kinds := (s.quals n).map Qualifier.kind, slot := some p.slot }

/-! ## AMEND and AMEND_IF -/

/-- What an accepted amendment does: the slot of the record found and the fields carried. -/
structure AmendPlan where
  slot    : SlotId
  carried : Carried
  deriving DecidableEq, Repr

/-- The record a handle-form message finds, with its slot: the sender is its owner (R27). -/
def State.ownRecord (s : State) (n : Node) (h : Fin 4) : Option (SlotId × Record) :=
  (s.findHandle n h).bind fun i => (s.record i).map fun r => (i, r)

/-- The last two checks of an amendment (R36 checks 6 and 7, R38 checks 4 and 5). -/
def State.amendFieldCheck (s : State) (n : Node) (i : SlotId) (c : RecClass) (x : Carried) : Except Denied AmendPlan :=
  if !x.fitsClass c then .error ⟨.classField, some i⟩
  else if !qualsValid s.settings c (s.quals n) then .error ⟨.classField, some i⟩
  else .ok { slot := i, carried := x }

/-- The checks of an AMEND of either form, in the order of R36; the length selects the form (R29). -/
def State.amendCheck (s : State) (n : Node) (hf : HandleField) (data : List Byte) : Except Denied AmendPlan :=
  if s.ctl.mode = .setup then .error ⟨.notRunning, none⟩
  else
    match asHandle hf with
    | none => .error ⟨.badHandle, none⟩
    | some h =>
      if data.length < 2 then .error ⟨.badLength, none⟩
      else
        match s.ownRecord n h with
        | none => .error ⟨.noRecord, none⟩
        | some (i, r) =>
          if data.length < 5 then
            if !r.live then .error ⟨.recordStale, some i⟩
            else s.amendFieldCheck n i r.cls (carriedCompact data)
          else s.amendFieldCheck n i r.cls (carriedFull (s.settings.row r.cls) data 0)

/-- The record changes of an accepted amendment: a STALE record is revived through the admission test (R7, R11). -/
def State.amendApply (s : State) (p : AmendPlan) (quals : List Qualifier) : State :=
  let t := s.amendSlot p.slot p.carried quals
  if (s.record p.slot).any Record.live then t else t.admissionTest p.slot

/-- QUEUED when a revival took WAITING; every other accepted amendment is ACCEPTED (R35). -/
def State.amendCode (before after : State) (i : SlotId) : ResultCode :=
  if (before.record i).any Record.live then .accepted else after.admissionCode i

/-- An AMEND is taken whole (R28, R34, R35, R46). -/
def State.takeAmend (s : State) (n : Node) (hf : HandleField) (data : List Byte) : State :=
  match s.amendCheck n hf data with
  | .error d => (s.emptyLatch n).answer .amend n hf (.refusal d.code d.slot)
  | .ok p =>
    let t := (s.emptyLatch n).amendApply p (s.quals n)
    t.answer .amend n hf
      { code := s.amendCode t p.slot, clamped := p.carried.clamped, kinds := (s.quals n).map Qualifier.kind
        slot := some p.slot }

/-- The test of R21 on an AMEND_IF from node n that carries a slot byte and a version: the slot it passes on. -/
def State.reservationTest (s : State) (n : Node) (slot version : Byte) : Option (SlotId × Record) :=
  match asSlot slot with
  | none => none
  | some i =>
    let m := s.monitors[n]
    match s.record i with
    | none => none
    | some r =>
      if m.valid && m.slot == i && m.version == version && r.live && (s.slot i).version == version then some (i, r)
      else none

/-- The slot that the answer to a failed reservation test carries: the named one when it holds a record (R38). -/
def State.namedSlot (s : State) (slot : Byte) : Option SlotId :=
  (asSlot slot).filter fun i => (s.record i).isSome

/-- The checks of an AMEND_IF, in the order of R38. -/
def State.amendIfCheck (s : State) (n : Node) (data : List Byte) : Except Denied AmendPlan :=
  if s.ctl.mode = .setup then .error ⟨.notRunning, none⟩
  else if data.length < 7 then .error ⟨.badLength, none⟩
  else
    match s.reservationTest n (byteAt data 0) (byteAt data 1) with
    | none => .error ⟨.reservationLost, s.namedSlot (byteAt data 0)⟩
    | some (i, r) => s.amendFieldCheck n i r.cls (carriedFull (s.settings.row r.cls) data 2)

/-- An AMEND_IF is taken whole (R28, R37, R46); it clears the sender's monitor whatever its result (R20). -/
def State.takeAmendIf (s : State) (n : Node) (hf : HandleField) (data : List Byte) : State :=
  let base := (s.emptyLatch n).clearMonitor n
  match s.amendIfCheck n data with
  | .error d => base.answer .amendIf n hf (.refusal d.code d.slot)
  | .ok p =>
    (base.amendSlot p.slot p.carried (s.quals n)).answer .amendIf n hf
      { code := .accepted, clamped := p.carried.clamped, kinds := (s.quals n).map Qualifier.kind, slot := some p.slot }

/-! ## RENEW, RELEASE, QUERY, RESERVE and QUALIFY -/

/-- The common checks of RENEW and RELEASE: the record of the sender's handle (R39, R40). -/
def State.handleCheck (s : State) (n : Node) (hf : HandleField) : Except Denied (SlotId × Record) :=
  if s.ctl.mode = .setup then .error ⟨.notRunning, none⟩
  else
    match asHandle hf with
    | none => .error ⟨.badHandle, none⟩
    | some h =>
      match s.ownRecord n h with
      | none => .error ⟨.noRecord, none⟩
      | some x => .ok x

/-- A RENEW is taken whole (R28, R39). -/
def State.takeRenew (s : State) (n : Node) (hf : HandleField) : State :=
  match s.handleCheck n hf with
  | .error d => s.answer .renew n hf (.refusal d.code d.slot)
  | .ok (i, r) =>
    if r.live then
      (s.renewSlot i).answer .renew n hf { code := .accepted, clamped := false, kinds := [], slot := some i }
    else s.answer .renew n hf (.refusal .recordStale (some i))

/-- A RELEASE is taken whole (R13, R28, R40). -/
def State.takeRelease (s : State) (n : Node) (hf : HandleField) : State :=
  match s.handleCheck n hf with
  | .error d => s.answer .release n hf (.refusal d.code d.slot)
  | .ok (i, _) =>
    (((s.freeSlot i).depart i).emptyLatch n).answer .release n hf
      { code := .accepted, clamped := false, kinds := [], slot := some i }

/-- The record report of slot i is queued as one item (R49, R51). -/
def State.report (s : State) (n : Node) (i : SlotId) : State :=
  match s.record i with
  | none => s
  | some r => s.enqueue (s.reportFrames n i r)

/-- The record a QUERY reads: the handle form without data, the slot form with (R29, R41). -/
def State.queryCheck (s : State) (n : Node) (hf : HandleField) (data : List Byte) : Except Denied SlotId :=
  if data.length = 0 then
    match s.handleCheck n hf with
    | .error d => .error d
    | .ok (i, _) => .ok i
  else if s.ctl.mode = .setup then .error ⟨.notRunning, none⟩
  else
    match s.namedSlot (byteAt data 0) with
    | none => .error ⟨.noRecord, none⟩
    | some i => .ok i

/-- A QUERY is taken whole (R28, R41). -/
def State.takeQuery (s : State) (n : Node) (hf : HandleField) (data : List Byte) : State :=
  match s.queryCheck n hf data with
  | .error d => s.answer .query n hf (.refusal d.code d.slot)
  | .ok i => s.report n i

/-- The checks of a RESERVE, in the order of R42. -/
def State.reserveCheck (s : State) (n : Node) (data : List Byte) : Except Denied SlotId :=
  if s.ctl.mode = .setup then .error ⟨.notRunning, none⟩
  else if data.length < 1 then .error ⟨.badLength, none⟩
  else
    match asSlot (byteAt data 0) with
    | none => .error ⟨.noRecord, none⟩
    | some i =>
      match s.record i with
      | none => .error ⟨.noRecord, none⟩
      | some r =>
        if !r.live then .error ⟨.recordStale, some i⟩
        else if r.owner = n then .ok i
        else if !r.shared then .error ⟨.notShared, some i⟩
        else if !rightsHold s.settings.shareRights[n] r.cls then .error ⟨.noRights, some i⟩
        else .ok i

/-- A RESERVE is taken whole: it clears the sender's monitor, and sets it when accepted (R19, R28, R42). -/
def State.takeReserve (s : State) (n : Node) (hf : HandleField) (data : List Byte) : State :=
  match s.reserveCheck n data with
  | .error d => (s.clearMonitor n).answer .reserve n hf (.refusal d.code d.slot)
  | .ok i => (s.setMonitor n i (s.slot i).version).report n i

/-- The latch after a qualifier is stored at its end; the hold timer starts when the latch was empty (R43, R45). -/
def Latch.store (l : Latch) (q : Qualifier) (hold : Nat) : Latch :=
  { quals := l.quals ++ [q], hold := if l.quals.isEmpty then some hold else l.hold }

/-- The outcome of a QUALIFY, in the order of R43, with the qualifier to store when it is accepted. -/
def State.qualifyCheck (s : State) (n : Node) (data : List Byte) : Except ResultCode Qualifier :=
  if s.ctl.mode = .setup then .error .notRunning
  else if data.length < 3 then .error .badLength
  else
    match QualKind.ofCode (byteAt data 0).toNat with
    | none => .error .classField
    | some k =>
      if (s.quals n).any fun q => q.kind == k then .error .shadowed
      else if 3 ≤ (s.quals n).length then .error .latchFull
      else .ok { kind := k, value := halfAt data 1 }

/-- A QUALIFY is taken whole (R28, R43). -/
def State.takeQualify (s : State) (n : Node) (hf : HandleField) (data : List Byte) : State :=
  match s.qualifyCheck n data with
  | .error c => s.answer .qualify n hf (.refusal c none)
  | .ok q =>
    { s with latches := s.latches.set n (s.latches[n].store q s.settings.qualifierHold.toNat) }.answer .qualify n hf
      { code := .accepted, clamped := false, kinds := [], slot := none }

/-! ## A requester message of any kind -/

/-- The requester message a decoded vehicle-link frame spells is taken; every other command leaves the state (R26, R28). -/
def State.takeMessage (s : State) : Instr → State
  | .openRecord n hf data => s.takeOpen n hf data
  | .amendCompact n hf data => s.takeAmend n hf data
  | .amendFull n hf data => s.takeAmend n hf data
  | .amendIf n hf data => s.takeAmendIf n hf data
  | .renew n hf _ => s.takeRenew n hf
  | .release n hf _ => s.takeRelease n hf
  | .query n hf data => s.takeQuery n hf data
  | .reserve n hf data => s.takeReserve n hf data
  | .qualify n hf data => s.takeQualify n hf data
  | _ => s

/-- A vehicle-link frame meets the receive filter: a frame that fails it is ignored, changing nothing (R26). -/
def State.takeVehicleFrame (s : State) (f : CanFrame) : State :=
  match decodeVehicleFrame s.settings.protocolTag f with
  | some c => s.takeMessage c
  | none => s

end Sys2Proof.Machine
end

