-- ==== Sys2Proof/Machine/Expiry.lean ====
section
/-! DEFINITION. The ends of the countdowns: leases, graces, qualifier holds, the sample, status and loss hold timers, and the
millisecond that passes on an idle step. An expiry whose timer is stopped does not happen (log entries 3 and 4). -/

namespace Sys2Proof.Machine

/-- The lease of the record in slot i expires (R10): it becomes STALE, its grace starts, and it departs from the arbiter's
structures. -/
def State.leaseExpires (s : State) (i : SlotId) : State :=
  match s.record i with
  | none => s
  | some r =>
    if r.live then
      let x := (s.slot i).enter .stale
      let grace := 10 * (s.settings.row r.cls).grace.toNat
      ((s.putSlot i { x with countdown := some grace }).clearMonitorsOf i).depart i
    else s

/-- The grace of the STALE record in slot i expires, and the record lapses (R12). -/
def State.graceExpires (s : State) (i : SlotId) : State :=
  if (s.record i).any fun r => r.state == .stale then s.freeSlot i else s

/-- The hold timer of a node's latch expires (R45). -/
def State.holdExpires (s : State) (n : Node) : State :=
  if s.latches[n].hold.isSome then s.emptyLatch n else s

/-- LEASE_EXPIRY (R10). -/
def execLeaseExpiry (slot : SlotId) (s : State) : Host.Outcome State Fault Refusal :=
  s.outsideReset fun s => s.leaseExpires slot

/-- GRACE_EXPIRY (R12). -/
def execGraceExpiry (slot : SlotId) (s : State) : Host.Outcome State Fault Refusal :=
  s.outsideReset fun s => s.graceExpires slot

/-- QUALIFIER_HOLD_EXPIRY (R45). -/
def execQualifierHoldExpiry (node : Node) (s : State) : Host.Outcome State Fault Refusal :=
  s.outsideReset fun s => s.holdExpires node

/-- SAMPLE_TIMER_EXPIRY (R81, R151, R152, R154). -/
def execSampleTimerExpiry (s : State) : Host.Outcome State Fault Refusal :=
  s.outsideReset fun s => if s.intake.timer.isSome then s.sampleTimerExpires else s

/-- STATUS_TIMER_EXPIRY (R84). -/
def execStatusTimerExpiry (source : HealthSource) (s : State) : Host.Outcome State Fault Refusal :=
  s.outsideReset fun s => if (s.health.entry source).timer.isSome then s.statusExpires source else s

/-- LOSS_HOLD_EXPIRY (R154): the timer runs in LOSS alone. -/
def execLossHoldExpiry (s : State) : Host.Outcome State Fault Refusal :=
  s.outsideReset fun s => if s.ctl.lossHold.isSome && s.ctl.mode == .loss then s.lossHoldExpires else s

/-! ## One millisecond -/

/-- One millisecond of a countdown: the ms left, or none when it reaches zero (00, Time). -/
def countDown (n : Nat) : Option Nat := if n ≤ 1 then none else some (n - 1)

/-- One millisecond of slot i's countdown (R15): its lease or its grace expires when it reaches zero. -/
def State.tickSlot (s : State) (i : SlotId) : State :=
  match (s.slot i).countdown with
  | none => s
  | some n =>
    match countDown n with
    | some m => s.putSlot i { s.slot i with countdown := some m }
    | none => if (s.record i).any Record.live then s.leaseExpires i else s.graceExpires i

/-- One millisecond of a node's hold timer (R45). -/
def State.tickLatch (s : State) (n : Node) : State :=
  match s.latches[n].hold with
  | none => s
  | some k =>
    match countDown k with
    | some m => { s with latches := s.latches.set n { s.latches[n] with hold := some m } }
    | none => s.emptyLatch n

/-- One millisecond of a status timer (R84). -/
def State.tickStatus (s : State) (x : HealthSource) : State :=
  match (s.health.entry x).timer with
  | none => s
  | some k =>
    match countDown k with
    | some m => { s with health := s.health.put x { s.health.entry x with timer := some m } }
    | none => s.statusExpires x

/-- One millisecond of the sample timer (R81). -/
def State.tickSample (s : State) : State :=
  match s.intake.timer with
  | none => s
  | some k =>
    match countDown k with
    | some m => { s with intake := { s.intake with timer := some m } }
    | none => s.sampleTimerExpires

/-- One millisecond of the loss hold timer (R154, R155). -/
def State.tickLossHold (s : State) : State :=
  match s.ctl.lossHold with
  | none => s
  | some k =>
    match countDown k with
    | some m => { s with ctl := { s.ctl with lossHold := some m } }
    | none => if s.ctl.mode = .loss then s.lossHoldExpires else s

/-- The entries of the health monitor (R83). -/
def healthSources : List HealthSource := [.retarder, .exhaust, .modulator 0, .modulator 1, .modulator 2]

/-- One millisecond passes: every running countdown falls by one, and those that reach zero expire, in a fixed order (log
entries 1 and 2). While a reset lasts nothing changes (R146). The loss hold timer stands before the sample timer, so that a
timer started by this millisecond's missed period is not counted down by it. -/
def State.tick (s : State) : State :=
  if s.inReset then s
  else
    let a := (List.finRange 24).foldl State.tickSlot s
    let b := (List.finRange 16).foldl State.tickLatch a
    let c := healthSources.foldl State.tickStatus b
    c.tickLossHold.tickSample

end Sys2Proof.Machine
end

