-- ==== Sys2Proof/Machine/PassEnd.lean ====
section
/-! DEFINITION. The end of a pass (R109 stage 8, R123 to R126) and the updates the other blocks take from it. -/

namespace Sys2Proof.Machine

/-- The cover of a record by its state and fields in the snapshot, with the force delivered D (R23). -/
def coverOf (r : Record) (d : Nat) : Cover :=
  match r.state with
  | .active => if r.cls.isDemand then (if r.force ≤ d then .covered else .part) else .covered
  | .held => .unserved
  | .waiting => .unserved
  | .stale => .unserved

/-- The cover update of one slot: a marked record takes the cover of its snapshot, and the mark goes (R23). -/
def Slot.takeCover (x : Slot) (snapshot : Option Record) (d : Nat) : Slot :=
  match snapshot with
  | some q =>
    { x with record := if x.mark then x.record.map fun r => { r with cover := coverOf q d } else x.record, mark := false }
  | none => { x with mark := false }

/-- The cover update at the end of a pass (R23, R126). -/
def State.updateCover (s : State) (p : Pass) (d : Nat) : State :=
  { s with demand := { s.demand with slots := Vector.ofFn fun i => s.demand.slots[i].takeCover p.slots[i].record d } }

/-- What the pass writes into the apportioner's state, the pass count included (R123). -/
def Apportioner.written (x : Apportioner) (f : Figures) : Apportioner :=
  { fcmd := f.fcmd, rho := f.rho, dir := f.dir
    last := { ret := f.fret, stage := f.stage, pressure := f.pressure }
    passCount := x.passCount + 1 }

/-- The SUMMARY A of a pass, formed from the state after the set-points are handed over (R125). -/
def State.passSummaryA (s : State) (p : Pass) (f : Figures) : SummaryA :=
  { count := s.app.passCount, mode := s.ctl.mode, stage := f.stage, dutyWarn := s.duty.warn, fallback := s.ctl.fallback
    fgov := p.arb.fgov, fcmd := f.fcmd, governing := p.arb.governing }

/-- The SUMMARY B of a pass (R125). -/
def State.passSummaryB (s : State) (p : Pass) (f : Figures) : SummaryB :=
  { count := s.app.passCount, fret := f.fret, sumF := f.sumF, balance := f.balance, hottest := p.hottest
    listed := p.listed.length, waiting := !p.waiting.isEmpty }

/-- A pass started in FAILSAFE sets σ to 0 when it writes the last set-points (R156). -/
def State.settleSigma (s : State) (p : Pass) : State :=
  if p.fromFailsafe then { s with ctl := { s.ctl with sigma := 0 } } else s

/-- The pass writes its results and hands over its frames and its summary pair (R123, R124, R125). -/
def State.issuePass (s : State) (p : Pass) (f : Figures) : State :=
  let t := ({ s with app := s.app.written f }.settleSigma p).handSetPoints
  t.handSummary (t.passSummaryA p f) (t.passSummaryB p f)

/-- The updates of the demand table, the thermal accounts and the duty timer (R126). -/
def State.takeUpdates (s : State) (p : Pass) (f : Figures) : State :=
  let t := (s.updateCover p f.delivered).updateThermal f.shares p.sample.v p.sample.dt p.sample.ambient
  { t with duty := t.duty.update (dutyCondition f.fret p.cap.cret f.sumF) p.sample.dt t.settings.dutyThreshold.toNat }

/-- A held sample starts the next pass at once (R80). -/
def State.startHeld (s : State) : State :=
  match s.intake.held with
  | none => s
  | some x => { s with intake := { s.intake with held := none } }.startPass x

/-- The pass in flight ends (R109, R123 to R126); the held sample starts the next one (R80). -/
def State.endPass (s : State) : State :=
  match s.pass with
  | none => s
  | some p =>
    let f := p.figures s.settings s.app
    { ((s.issuePass p f).takeUpdates p f) with pass := none }.startHeld

/-- PASS_END (R125). With no pass in flight the event does not happen (log entry 4). -/
def execPassEnd (s : State) : Host.Outcome State Fault Refusal := s.outsideReset State.endPass

end Sys2Proof.Machine
end

