-- ==== Sys2Proof/Machine/Port.lean ====
section
/-! DEFINITION. The setting port: the meanings of the transfers and of the RUN and SETUP commands (09). -/

namespace Sys2Proof.Machine

/-- A live value as it stands at its owner (R170, R184). -/
def State.liveValue (s : State) : LiveIndex → Half
  | .mode => BitVec.ofNat 16 s.ctl.mode.code
  | .resetCause => BitVec.ofNat 16 s.ctl.cause.code
  | .settingsValid => BitVec.ofNat 16 s.ctl.settingsValid.toNat
  | .slotsInUse => BitVec.ofNat 16 s.slotsInUse
  | .interventionCount => BitVec.ofNat 16 s.arbiter.listed.length
  | .waitingCount => BitVec.ofNat 16 s.arbiter.waiting.length
  | .temperature j => (s.accounts[j].map fun a => BitVec.ofInt 16 a.t16).getD 0x8000
  | .dutyCount => BitVec.ofNat 16 (s.duty.count / 100)
  | .dutyBits => BitVec.ofNat 16 (s.duty.running.toNat + 2 * s.duty.warn.toNat)
  | .passCount => s.app.passCount.setWidth 16
  | .fcmd => BitVec.ofNat 16 s.app.fcmd

/-- The value standing at an index (R162). -/
def State.valueAt (s : State) : PortIndex → Half
  | .setting i => s.settings.get i
  | .live l => s.liveValue l

/-- The select pointer replaced. -/
def State.point (s : State) (p : Option PortIndex) : State := { s with port := { s.port with pointer := p } }

/-- A SELECT (R161). -/
def State.portSelect (s : State) (index : Half) : State :=
  match PortIndex.ofCode index.toNat with
  | some i => (s.point (some i)).respond .ok index
  | none => (s.point none).respond .badIndex 0

/-- A READ (R162). -/
def State.portRead (s : State) : State :=
  match s.port.pointer with
  | none => s.respond .noSelect 0
  | some i => (s.point none).respond .ok (s.valueAt i)

/-- A WRITE: its tests in the order of R163, then the value is stored. -/
def State.portWrite (s : State) (value : Half) : State :=
  match s.port.pointer with
  | none => s.respond .noSelect 0
  | some (.live l) => (s.point none).respond .readOnly (s.liveValue l)
  | some (.setting i) =>
    if s.ctl.mode ≠ .setup then (s.point none).respond .notSetup (s.settings.get i)
    else if !i.inRange value then (s.point none).respond .range (s.settings.get i)
    else { (s.point none) with settings := s.settings.set i value }.respond .ok value

/-! ## RUN -/

/-- The sum of the split entries of the configured axles (R167 check 2). -/
def splitSum (t : Settings) : Nat :=
  ((List.finRange 3).map fun j => if t.axleConfigured j then t.split[j].toNat else 0).sum

/-- The lowest exhaust point at which stage 2 is below stage 1 (R167 check 5). -/
def exhaustFault (t : Settings) : Option (Fin 17) :=
  (List.finRange 17).find? fun k => t.stage2Points[k].toNat < t.stage1Points[k].toNat

/-- The lowest node whose class rights name a class code above 5 (R167 check 6). -/
def nodeFault (t : Settings) : Option Node := (List.finRange 16).find? fun m => 64 ≤ t.classRights[m].toNat

/-- The first consistency check that fails, as group and item (R167, R182). -/
def inconsistency (t : Settings) : Option (Nat × Nat) :=
  if t.axleCount ≠ 2 ∧ t.axleCount ≠ 3 then some (1, 0)
  else if splitSum t ≠ 100 then some (2, 0)
  else if t.tcut.toInt ≤ t.tder.toInt then some (3, 0)
  else if t.te.toInt ≤ t.ts.toInt then some (4, 0)
  else
    match exhaustFault t with
    | some k => some (5, k)
    | none => (nodeFault t).map fun m => (6, m.val)

/-- The effects of an accepted RUN at every block (R148, R168). -/
def State.runAccepted (s : State) : State :=
  { s with
    intake := { s.intake with pendingA := none, held := none, lastUsed := none, timer := none, lastV := none }
    health := .silent
    app := .afterReset
    accounts := initialAccounts s.settings
    duty := .stopped
    ctl := { s.ctl with settingsValid := true, recovery := 0, lossHold := none, sigma := 0 } }.setMode .startup

/-- The RUN command (R167, R168). -/
def State.portRun (s : State) : State :=
  if s.ctl.mode ≠ .setup then s.respond .notSetup (BitVec.ofNat 16 s.ctl.mode.code)
  else
    match inconsistency s.settings with
    | some (group, item) => s.respond .inconsistent (BitVec.ofNat 16 (256 * group + item))
    | none => s.runAccepted.respond .ok (BitVec.ofNat 16 Mode.startup.code)

/-! ## SETUP -/

/-- The entry to SETUP at every block (R150): a pass in flight is abandoned (R128), the pass count, last valid v, accounts and
vehicle transmit queue are kept. -/
def State.enterSetup (s : State) : State :=
  { s with
    latches := Vector.replicate 16 .empty
    intake := { s.intake with pendingA := none, held := none, lastUsed := none, timer := none }
    health := .silent
    app := { Apportioner.afterReset with passCount := s.app.passCount }
    pass := none
    chassisTx := .empty
    duty := .stopped
    ctl := { s.ctl with settingsValid := false, recovery := 0, lossHold := none, sigma := 0 } }.setMode .setup

/-- The last valid v when it is present and 5 or more (R150 test 2). -/
def State.inMotion (s : State) : Option Nat := s.intake.lastV.filter (5 ≤ ·)

/-- The SETUP command (R150, R169); in SETUP it leaves everything as it stands. -/
def State.portSetup (s : State) : State :=
  if 0 < s.slotsInUse then s.respond .recordsHeld (BitVec.ofNat 16 s.slotsInUse)
  else
    match s.inMotion with
    | some v => s.respond .inMotion (BitVec.ofNat 16 v)
    | none =>
      (if s.ctl.mode = .setup then s else s.enterSetup).respond .ok (BitVec.ofNat 16 Mode.setup.code)

/-! ## Transfers -/

/-- The data of a COMMAND transfer: RUN, SETUP, or a code that names neither, which is refused (R166, R182). -/
def State.portCommand (s : State) (code : Half) : State :=
  if code = 1 then s.portRun else if code = 2 then s.portSetup else s.respondFree .badOperation

/-- The operation of a decoded transfer (R160). -/
def State.portOperation (s : State) : Instr → State
  | .select index => s.portSelect index
  | .read _ => s.portRead
  | .write value => s.portWrite value
  | .run => s.portRun
  | .setup => s.portSetup
  | .unknownCommand code => s.portCommand code
  | _ => s

/-- The status of a transfer refused on its form (R160). -/
def formStatus : FormError → PortStatus
  | .framing => .framing
  | .badCheck => .badCheck
  | .badOperation => .badOperation

/-- A transfer of any bytes is taken: the form tests on the input register, then its operation (R160). -/
def State.takeTransfer (s : State) (bytes : List Byte) : State :=
  let t := s.clock bytes
  match decodeTransfer t.port.input with
  | .error e => t.respondFree (formStatus e)
  | .ok c => t.portOperation c

/-- SELECT (R161). -/
def execSelect (index : Half) (s : State) : Host.Outcome State Fault Refusal :=
  s.outsideReset fun s => (s.clock (transferBytes 1 index)).portSelect index

/-- READ (R162). -/
def execRead (data : Half) (s : State) : Host.Outcome State Fault Refusal :=
  s.outsideReset fun s => (s.clock (transferBytes 2 data)).portRead

/-- WRITE (R163). -/
def execWrite (value : Half) (s : State) : Host.Outcome State Fault Refusal :=
  s.outsideReset fun s => (s.clock (transferBytes 3 value)).portWrite value

/-- RUN (R167). -/
def execRun (s : State) : Host.Outcome State Fault Refusal :=
  s.outsideReset fun s => (s.clock (transferBytes 4 1)).portRun

/-- SETUP (R169). -/
def execSetup (s : State) : Host.Outcome State Fault Refusal :=
  s.outsideReset fun s => (s.clock (transferBytes 4 2)).portSetup

/-- TRANSFER_REFUSED_ON_FORM (R160): bytes that pass every form test are the transfer they spell (log entry 8). -/
def execTransferRefusedOnForm (bytes : List Byte) (s : State) : Host.Outcome State Fault Refusal :=
  s.outsideReset fun s => s.takeTransfer bytes

/-- UNKNOWN_COMMAND (R166); a code that names RUN or SETUP is that command (log entry 8). -/
def execUnknownCommand (code : Half) (s : State) : Host.Outcome State Fault Refusal :=
  s.outsideReset fun s => (s.clock (transferBytes 4 code)).portCommand code

end Sys2Proof.Machine
end

