-- ==== Sys2Proof/Machine/Reset.lean ====
section
/-! DEFINITION. The beginnings of the resets and their end (R146, R159, and the reset columns of R25, R44, R50, R57, R61, R82,
R87, R108, R124, R127, R138, R143, R144). -/

namespace Sys2Proof.Machine

/-- What every reset clears, whatever its cause: the queues, latches, records, monitors, lists, pending frames and samples, the
sample timer, health, the apportioner, the pass in flight, the transmit slots, the duty timer, the loss hold timer, the
recovery count, σ, the select pointer and the input register. The response register stands until the reset ends (R159, log
entry 12). -/
def State.resetBlocks (s : State) (cause : ResetCause) : State :=
  { s with
    inReset := true
    vehicleTx := []
    latches := Vector.replicate 16 .empty
    demand := .afterReset
    monitors := Vector.replicate 16 .afterReset
    arbiter := .afterReset
    intake := { s.intake with pendingA := none, held := none, lastUsed := none, timer := none }
    health := .silent
    app := .afterReset
    pass := none
    chassisTx := .empty
    duty := .stopped
    ctl := { s.ctl with cause := cause, recovery := 0, lossHold := none, sigma := 0 }
    port := { s.port with pointer := none, input := [] } }

/-- The mode a line reset or a supply dip sets (R146). -/
def modeAfterReset (settingsValid : Bool) : Mode := if settingsValid then .startup else .setup

/-- POWER_ON (R146): besides what every reset clears, the settings, the last valid values and the accounts take their power-on
values, settings-valid is cleared, and the mode is SETUP. -/
def execPowerOn (s : State) : Host.Outcome State Fault Refusal :=
  let t := s.resetBlocks .powerOn
  .next ({ t with
    intake := .afterPowerOn
    settings := powerOnSettings
    accounts := Vector.replicate 3 none
    ctl := { t.ctl with settingsValid := false } }.setMode .setup)

/-- LINE_RESET (R146): settings, accounts, last valid values and settings-valid are kept. -/
def execLineReset (s : State) : Host.Outcome State Fault Refusal :=
  .next ((s.resetBlocks .line).setMode (modeAfterReset s.ctl.settingsValid))

/-- SUPPLY_DIP (R146): the same effects as a line reset, with its own cause. -/
def execSupplyDip (s : State) : Host.Outcome State Fault Refusal :=
  .next ((s.resetBlocks .supplyDip).setMode (modeAfterReset s.ctl.settingsValid))

/-- RESET_END (R146, R159): the part takes events again, and the response register holds RESTARTED with value 0. With no reset
to end, the event does not happen (log entry 4). -/
def execResetEnd (s : State) : Host.Outcome State Fault Refusal :=
  .next (if s.inReset then
    { s with inReset := false, port := { s.port with response := { status := .restarted, value := 0 } } }
  else s)

end Sys2Proof.Machine
end

