-- ==== Sys2Proof/Machine/Vehicle.lean ====
section
/-! DEFINITION. The meanings of the vehicle-link commands: the requester messages, the ignored frame, the frame sent. -/

namespace Sys2Proof.Machine

/-- OPEN (R32, R33). -/
def execOpenRecord (node : Node) (handle : HandleField) (data : List Byte) (s : State) : Host.Outcome State Fault Refusal :=
  s.outsideReset fun s => s.takeOpen node handle data

/-- AMEND_COMPACT (R34, R36). The length of the data selects the form (R29, log entry 9). -/
def execAmendCompact (node : Node) (handle : HandleField) (data : List Byte) (s : State) : Host.Outcome State Fault Refusal :=
  s.outsideReset fun s => s.takeAmend node handle data

/-- AMEND_FULL (R35, R36). The length of the data selects the form (R29, log entry 9). -/
def execAmendFull (node : Node) (handle : HandleField) (data : List Byte) (s : State) : Host.Outcome State Fault Refusal :=
  s.outsideReset fun s => s.takeAmend node handle data

/-- AMEND_IF (R37, R38). -/
def execAmendIf (node : Node) (handle : HandleField) (data : List Byte) (s : State) : Host.Outcome State Fault Refusal :=
  s.outsideReset fun s => s.takeAmendIf node handle data

/-- RENEW (R39). Its data is ignored (R29). -/
def execRenew (node : Node) (handle : HandleField) (_data : List Byte) (s : State) : Host.Outcome State Fault Refusal :=
  s.outsideReset fun s => s.takeRenew node handle

/-- RELEASE (R40). Its data is ignored (R29). -/
def execRelease (node : Node) (handle : HandleField) (_data : List Byte) (s : State) : Host.Outcome State Fault Refusal :=
  s.outsideReset fun s => s.takeRelease node handle

/-- QUERY (R41). -/
def execQuery (node : Node) (handle : HandleField) (data : List Byte) (s : State) : Host.Outcome State Fault Refusal :=
  s.outsideReset fun s => s.takeQuery node handle data

/-- RESERVE (R42). -/
def execReserve (node : Node) (handle : HandleField) (data : List Byte) (s : State) : Host.Outcome State Fault Refusal :=
  s.outsideReset fun s => s.takeReserve node handle data

/-- QUALIFY (R43). -/
def execQualify (node : Node) (handle : HandleField) (data : List Byte) (s : State) : Host.Outcome State Fault Refusal :=
  s.outsideReset fun s => s.takeQualify node handle data

/-- VEHICLE_FRAME_IGNORED (R26): a frame that fails the filter changes nothing; a frame that passes it is the message it
spells (log entry 8). -/
def execVehicleFrameIgnored (frame : CanFrame) (s : State) : Host.Outcome State Fault Refusal :=
  s.outsideReset fun s => s.takeVehicleFrame frame

/-- VEHICLE_FRAME_SENT (R50): the head is removed and the next frame becomes the head. With an empty queue no frame is in
transmission, and the event does not happen (log entry 4). -/
def execVehicleFrameSent (s : State) : Host.Outcome State Fault Refusal :=
  s.outsideReset fun s => { s with vehicleTx := s.vehicleTx.tail }

end Sys2Proof.Machine
end

