-- ==== Sys2Proof/Machine/Dispatch.lean ====
section
/-! DEFINITION. The meaning of every command: one arm per constructor of Instr. -/

namespace Sys2Proof.Machine

/-- A command's effect on everything but the queue. -/
def exec (i : Instr) (s : State) : Host.Outcome State Fault Refusal :=
  match i with
  | .openRecord node handle data => Sys2Proof.Machine.execOpenRecord node handle data s
  | .amendCompact node handle data => Sys2Proof.Machine.execAmendCompact node handle data s
  | .amendFull node handle data => Sys2Proof.Machine.execAmendFull node handle data s
  | .amendIf node handle data => Sys2Proof.Machine.execAmendIf node handle data s
  | .renew node handle data => Sys2Proof.Machine.execRenew node handle data s
  | .release node handle data => Sys2Proof.Machine.execRelease node handle data s
  | .query node handle data => Sys2Proof.Machine.execQuery node handle data s
  | .reserve node handle data => Sys2Proof.Machine.execReserve node handle data s
  | .qualify node handle data => Sys2Proof.Machine.execQualify node handle data s
  | .vehicleFrameIgnored frame => Sys2Proof.Machine.execVehicleFrameIgnored frame s
  | .leaseExpiry slot => Sys2Proof.Machine.execLeaseExpiry slot s
  | .graceExpiry slot => Sys2Proof.Machine.execGraceExpiry slot s
  | .qualifierHoldExpiry node => Sys2Proof.Machine.execQualifierHoldExpiry node s
  | .sampleFrameA ts v n ratio => Sys2Proof.Machine.execSampleFrameA ts v n ratio s
  | .sampleFrameB ts oil ambient load0 load1 load2 => Sys2Proof.Machine.execSampleFrameB ts oil ambient load0 load1 load2 s
  | .healthFrame actuator code => Sys2Proof.Machine.execHealthFrame actuator code s
  | .chassisFrameIgnored frame => Sys2Proof.Machine.execChassisFrameIgnored frame s
  | .sampleTimerExpiry => Sys2Proof.Machine.execSampleTimerExpiry s
  | .statusTimerExpiry source => Sys2Proof.Machine.execStatusTimerExpiry source s
  | .lossHoldExpiry => Sys2Proof.Machine.execLossHoldExpiry s
  | .passEnd => Sys2Proof.Machine.execPassEnd s
  | .vehicleFrameSent => Sys2Proof.Machine.execVehicleFrameSent s
  | .chassisFrameSent => Sys2Proof.Machine.execChassisFrameSent s
  | .powerOn => Sys2Proof.Machine.execPowerOn s
  | .lineReset => Sys2Proof.Machine.execLineReset s
  | .supplyDip => Sys2Proof.Machine.execSupplyDip s
  | .resetEnd => Sys2Proof.Machine.execResetEnd s
  | .select index => Sys2Proof.Machine.execSelect index s
  | .read data => Sys2Proof.Machine.execRead data s
  | .write value => Sys2Proof.Machine.execWrite value s
  | .run => Sys2Proof.Machine.execRun s
  | .setup => Sys2Proof.Machine.execSetup s
  | .transferRefusedOnForm bytes => Sys2Proof.Machine.execTransferRefusedOnForm bytes s
  | .unknownCommand code => Sys2Proof.Machine.execUnknownCommand code s

end Sys2Proof.Machine
end

