-- ==== Sys2Proof/Safety.lean ====
section
/-! DEFINITION. The laws the spec says the blocks keep: what counts as a safe state. -/

namespace Sys2Proof.Machine

/-- The FALLBACK line is asserted exactly in SETUP, STARTUP and FAILSAFE (R145). -/
abbrev FallbackLaw (s : State) : Prop := s.ctl.fallback = s.ctl.mode.assertsFallback

/-- Every mode other than SETUP is entered with settings-valid set, which is clear throughout SETUP (R147). -/
abbrev ValidLaw (s : State) : Prop := s.ctl.settingsValid = true ↔ s.ctl.mode ≠ .setup

/-- Every setting lies in its range (R164, R165). -/
abbrev SettingsLaw (s : State) : Prop := ∀ i ∈ SettingIndex.all, i.inRange (s.settings.get i) = true

/-- The vehicle transmit queue holds at most 16 frames (R50). -/
abbrev QueueLaw (s : State) : Prop := s.vehicleTx.length ≤ 16

/-- A latch holds 0 to 3 qualifiers of different kinds, and its hold timer runs while it holds one or more (R44). -/
abbrev LatchLaw (s : State) : Prop :=
  ∀ n : Node, (s.quals n).length ≤ 3 ∧ ((s.quals n).map Qualifier.kind).Nodup
    ∧ (s.latches[n].hold.isSome = true ↔ s.quals n ≠ [])

/-- The age order lists each non-FREE slot once (R4); no two records share owner and handle, so that a node owns at most four
(R1); a countdown runs exactly in the non-FREE slots (R15). -/
abbrev TableLaw (s : State) : Prop :=
  s.demand.age.Nodup
  ∧ (∀ i : SlotId, i ∈ s.demand.age ↔ (s.record i).isSome = true)
  ∧ (∀ i j : SlotId, ∀ r ∈ s.record i, ∀ q ∈ s.record j, r.owner = q.owner → r.handle = q.handle → i = j)
  ∧ (∀ i : SlotId, (s.slot i).countdown.isSome = (s.record i).isSome)

/-- The arbiter's lists hold exactly the ACTIVE records of intervention class and the WAITING records, which are of
intervention class; at most 4 are listed, and a record waits only while 4 are (R57). The suppression flag says whether the
list holds a COLLISION record, no DESCENT or STALK record is ACTIVE while it is set, and a record is HELD only then (R61). -/
abbrev ArbiterLaw (s : State) : Prop :=
  s.arbiter.listed.Nodup ∧ s.arbiter.listed.length ≤ 4 ∧ s.arbiter.waiting.Nodup
  ∧ (s.arbiter.waiting ≠ [] → s.arbiter.listed.length = 4)
  ∧ (∀ i : SlotId, i ∈ s.arbiter.listed ↔ ∃ r ∈ s.record i, r.cls.intervention = true ∧ r.state = .active)
  ∧ (∀ i : SlotId, i ∈ s.arbiter.waiting ↔ ∃ r ∈ s.record i, r.state = .waiting)
  ∧ (∀ i : SlotId, ∀ r ∈ s.record i, r.state = .waiting → r.cls.intervention = true)
  ∧ s.arbiter.suppression = holdsCollision s.demand.slots s.arbiter.listed
  ∧ (∀ i : SlotId, ∀ r ∈ s.record i, r.cls.heldColumn = true → r.state = .active → s.arbiter.suppression = false)
  ∧ (∀ i : SlotId, ∀ r ∈ s.record i, r.state = .held → r.cls.heldColumn = true ∧ s.arbiter.suppression = true)

/-- The fields of a record that its class fixes as present or absent, and their ranges, with t the settings in force (R2,
R3). -/
abbrev Record.fits (r : Record) (t : Settings) : Prop :=
  r.force ≤ 2500 ∧ (∀ l ∈ r.limit, l ≤ 2500)
  ∧ (r.limit.isSome = true ↔ r.cls = .stability) ∧ (r.cls = .stability → r.force = 0)
  ∧ (r.inhibit.isSome = r.cls.intervention) ∧ r.sources ≠ .empty
  ∧ (∀ o ∈ r.onset, o ≤ 20000 ∧ r.cls ≠ .stability ∧ (o = 0 → r.cls = .collision))
  ∧ (∀ j : AxleId, r.exclusion[j] = true → t.axleConfigured j = true)
  ∧ 1 ≤ r.leasePeriod ∧ r.leasePeriod ≤ 255 ∧ (∀ p ∈ r.nextLease, 1 ≤ p ∧ p ≤ 255)

/-- No record exists in SETUP (R25, R150), every record fits its class (R3), and every setting its range. -/
abbrev RecordLaw (s : State) : Prop :=
  SettingsLaw s ∧ (s.ctl.mode = .setup → ∀ i : SlotId, s.record i = none)
  ∧ ∀ i : SlotId, ∀ r ∈ s.record i, r.fits s.settings

/-- A valid monitor names a record in ACTIVE, HELD or WAITING at its current version (R20, R21). -/
abbrev MonitorLaw (s : State) : Prop :=
  ∀ n : Node, s.monitors[n].valid = true →
    (∃ r ∈ s.record s.monitors[n].slot, r.live = true) ∧ (s.slot s.monitors[n].slot).version = s.monitors[n].version

/-- Every account lies between −40 and 900 °C; outside SETUP its residues lie below their divisors (R134). -/
abbrev AccountLaw (s : State) : Prop :=
  SettingsLaw s ∧ ValidLaw s
  ∧ ∀ j : AxleId, ∀ a ∈ s.accounts[j], -640 ≤ a.t16 ∧ a.t16 ≤ 14400
      ∧ (s.ctl.mode ≠ .setup → a.heatRes < heatDivisor s.settings j
          ∧ -(coolDivisor s.settings j : Int) < a.coolRes ∧ a.coolRes < coolDivisor s.settings j)

/-- The commanded total and the ramp residue keep their ranges (R108, R113). -/
abbrev TotalLaw (s : State) : Prop := s.app.fcmd ≤ 2500 ∧ s.app.rho ≤ 999

/-- Every pressure set-point is a multiple of 5 kPa and no greater than Pmax (R122, R154). In SETUP no pass is in flight and
the set-points are 0 (R108, R150). -/
abbrev PressureLaw (s : State) : Prop :=
  SettingsLaw s ∧ (s.ctl.mode = .setup → s.pass = none ∧ s.app.last = .zero)
  ∧ ∀ j : AxleId, s.app.last.pressure[j] % 5 = 0 ∧ s.app.last.pressure[j] ≤ s.settings.pmax[j].toNat

/-- The loss hold timer runs exactly in LOSS; the recovery count stays below 3 and is 0 outside LOSS and FAILSAFE; σ is
below 1000 (R144, R155, R156, R158). -/
abbrev ModeLaw (s : State) : Prop :=
  (s.ctl.lossHold.isSome = true ↔ s.ctl.mode = .loss) ∧ s.ctl.recovery ≤ 2 ∧ s.ctl.sigma ≤ 999
  ∧ (s.ctl.recovery ≠ 0 → s.ctl.mode = .loss ∨ s.ctl.mode = .failsafe)

/-- A health entry whose status timer is stopped is FAULT, and in SETUP every entry is (R84, R87). -/
abbrev HealthLaw (s : State) : Prop :=
  (∀ x ∈ healthSources, (s.health.entry x).timer = none → (s.health.entry x).value = .fault)
  ∧ (s.ctl.mode = .setup → ∀ x ∈ healthSources, s.health.entry x = .silent)

/-- A sample is held only while a pass is in flight (R80), Δt lies between 1 and 50 for both (R74), in SETUP the intake waits for
nothing and its timer is stopped (R71, R81, R82). -/
abbrev IntakeLaw (s : State) : Prop :=
  (s.intake.held.isSome = true → s.pass.isSome = true)
  ∧ (∀ x ∈ s.intake.held, 1 ≤ x.dt ∧ x.dt ≤ 50) ∧ (∀ p ∈ s.pass, 1 ≤ p.sample.dt ∧ p.sample.dt ≤ 50)
  ∧ (∀ v ∈ s.intake.lastV, v ≤ 1500)
  ∧ (s.ctl.mode = .setup → s.intake.pendingA = none ∧ s.intake.held = none ∧ s.intake.lastUsed = none
      ∧ s.intake.timer = none ∧ s.pass = none)

/-- A set-point frame waits only behind a frame of its kind whose transmission has begun, such a frame stands in its slot, and
the frame on the link is one of them (R124). -/
abbrev SlotLaw (s : State) : Prop :=
  ∀ k : Fin 4, (s.chassisTx.slots[k].behind.isSome = true → s.chassisTx.slots[k].begun = true)
    ∧ (s.chassisTx.slots[k].begun = true → s.chassisTx.slots[k].front.isSome = true)
    ∧ (s.chassisTx.onAir = some k → s.chassisTx.slots[k].begun = true)

/-- The duty timer's count saturates, and DUTY_WARN needs the timer RUNNING at the threshold (R141, R142). In SETUP it is
stopped (R143) and no pass is in flight. -/
abbrev DutyLaw (s : State) : Prop :=
  s.duty.count ≤ 6553500
  ∧ (s.duty.warn = true → s.duty.running = true ∧ 100 * s.settings.dutyThreshold.toNat ≤ s.duty.count)
  ∧ (s.ctl.mode = .setup → s.duty = .stopped ∧ s.pass = none)

/-- A safe state keeps every law. -/
abbrev SafeState (s : State) : Prop :=
  FallbackLaw s ∧ ValidLaw s ∧ QueueLaw s ∧ LatchLaw s ∧ TableLaw s ∧ ArbiterLaw s ∧ RecordLaw s ∧ MonitorLaw s
  ∧ AccountLaw s ∧ TotalLaw s ∧ PressureLaw s ∧ ModeLaw s ∧ HealthLaw s ∧ IntakeLaw s ∧ SlotLaw s ∧ DutyLaw s

end Sys2Proof.Machine
end

