-- ==== Sys2Proof/Claims.lean ====
section
/-! DEFINITION. The words the statements use: what the spec's tables say, written apart from the meanings. -/

namespace Sys2Proof.Claims
open Sys2Proof Machine

/-! ## Time -/

/-- The countdowns of the part (R15, R45, R81, R84, R144). -/
inductive Timer where
  | slot (i : SlotId)
  | latch (n : Node)
  | status (x : HealthSource)
  | sample
  | lossHold
  deriving DecidableEq, Repr

/-- The ms left of a countdown, none when it is stopped. -/
def left (s : State) : Timer → Option Nat
  | .slot i => (s.slot i).countdown
  | .latch n => s.latches[n].hold
  | .status x => (s.health.entry x).timer
  | .sample => s.intake.timer
  | .lossHold => s.ctl.lossHold

/-- The event at the end of a countdown: of a slot, the lease of a record in ACTIVE, HELD or WAITING, the grace of a STALE one
(R10, R12). -/
def expiryOf (s : State) : Timer → Instr
  | .slot i => if (s.record i).any fun r => r.state == .stale then .graceExpiry i else .leaseExpiry i
  | .latch n => .qualifierHoldExpiry n
  | .status x => .statusTimerExpiry x
  | .sample => .sampleTimerExpiry
  | .lossHold => .lossHoldExpiry

/-- The state with every running countdown one ms lower, and no event taken. -/
def lessOne (s : State) : State :=
  let down (t : Option Nat) : Option Nat := t.map fun k => k - 1
  { s with
    demand :=
      { s.demand with slots := Vector.ofFn fun i => { s.slot i with countdown := down (s.slot i).countdown } }
    latches := Vector.ofFn fun n => { s.latches[n] with hold := down s.latches[n].hold }
    health :=
      { retarder := { s.health.retarder with timer := down s.health.retarder.timer }
        exhaust := { s.health.exhaust with timer := down s.health.exhaust.timer }
        modulator := Vector.ofFn fun j => { s.health.modulator[j] with timer := down s.health.modulator[j].timer } }
    intake := { s.intake with timer := down s.intake.timer }
    ctl := { s.ctl with lossHold := down s.ctl.lossHold } }

/-! ## Replies -/

/-- The vehicle transmit queue after a reply: its frames join as one item, or are discarded whole (R50, R51). -/
def joined (q frames : List VehicleFrame) : List VehicleFrame := if q.length + frames.length ≤ 16 then q ++ frames else q

/-- The ANSWER frame with these bytes (R173, R176): `flags` is byte 2, `count` byte 3, `about` bytes 4 to 7. -/
def answer (s : State) (k : MsgKind) (n : Node) (hf : HandleField) (code : ResultCode) (flags count : Nat)
    (about : List Byte) : VehicleFrame :=
  { id := vehicleId s.settings.protocolTag 0xA (BitVec.ofNat 4 n) (BitVec.ofNat 4 hf)
    data := [byte k.code, byte code.code, byte flags, byte count] ++ about }

/-- Bytes 4 to 7 of an ANSWER that carries a slot (R176). -/
def about (i : SlotId) (state : Option RecState) (version : BitVec 8) (cover : Cover) : List Byte :=
  [byte i, byte (recStateCode state), version, byte cover.code]

/-- Bytes 4 to 7 of an ANSWER about a slot as it stands, or about none (R48, R176). -/
def aboutStanding (s : State) : Option SlotId → List Byte
  | none => [0xFF, 0, 0, 0]
  | some i => about i ((s.record i).map Record.state) (s.slot i).version (((s.record i).map Record.cover).getD .unserved)

/-- The two frames of the record report of slot i (R49, R175, R177). -/
def report (s : State) (n : Node) (i : SlotId) (r : Record) : List VehicleFrame :=
  let id := vehicleId s.settings.protocolTag 0xB (BitVec.ofNat 4 n) (BitVec.ofNat 4 r.handle)
  [{ id := id, data := r.reportPart1 i (s.slot i).version },
   { id := id, data := r.reportPart2 i (s.slot i).version ((s.slot i).countdown.getD 0) }]

/-! ## Qualifiers and amendments -/

/-- The value a latch holds for a kind (R44). -/
def latched (quals : List Qualifier) (k : QualKind) : Option Half :=
  (quals.find? fun q => q.kind == k).map Qualifier.value

/-- A record with the fields that the latched qualifiers name (R46, R47). -/
def withQualifiers (r : Record) (quals : List Qualifier) : Record :=
  { r with
    sources := ((latched quals .sources).map SourceSet.ofMask).getD r.sources
    exclusion := ((latched quals .axles).map axleSetOfMask).getD r.exclusion
    onset := ((latched quals .onset).map BitVec.toNat).or r.onset
    inhibit := ((latched quals .inhibit).map SourceSet.ofMask).or r.inhibit }

/-- Byte 2 of the ANSWER to an accepted consuming message (R176). -/
def flagsByte (clamped : Bool) (quals : List Qualifier) : Nat :=
  clamped.toNat + 2 * (latched quals .sources).isSome.toNat + 4 * (latched quals .axles).isSome.toNat
    + 8 * (latched quals .onset).isSome.toNat + 16 * (latched quals .inhibit).isSome.toNat

/-- Whether the force, limit and lease period at byte k on are changed by the clamps (R31). -/
def clampedAt (row : ClassRow) (data : List Byte) (k : Nat) : Bool :=
  forceClamped (halfAt data k) || limitClamped (halfAt data (k + 2)) || leaseClamped row (byteAt data (k + 4))

/-- The record after an amendment (R7, R16): a staged period is promoted, and a carried one that differs from the one then in
force is staged. -/
def amended (r : Record) (quals : List Qualifier) (force : Nat) (limit : Option Nat) (lease : Option Nat) : Record :=
  let period := r.nextLease.getD r.leasePeriod
  { withQualifiers r quals with
    force := force, limit := limit, leasePeriod := period, nextLease := lease.filter (· ≠ period) }

/-- Whether an amendment counts for the version (R18): a content field changed, or a lease period was staged. -/
abbrev counts (before after : Record) : Prop :=
  before.force ≠ after.force ∨ before.limit ≠ after.limit ∨ before.sources ≠ after.sources
    ∨ before.exclusion ≠ after.exclusion ∨ before.onset ≠ after.onset ∨ before.inhibit ≠ after.inhibit
    ∨ after.nextLease ≠ none

/-- A slot after an amendment of its record (R7, R15, R18). -/
def amendedSlot (x : Slot) (before after : Record) : Slot :=
  { x with
    record := some after
    countdown := some (10 * after.leasePeriod)
    version := if counts before after then x.version + 1 else x.version }

/-- The monitors with those that name a slot of a list cleared (R20). -/
def monitorsWithout (ms : Vector Monitor 16) (slots : List SlotId) : Vector Monitor 16 :=
  Vector.ofFn fun n => if ms[n].slot ∈ slots then { ms[n] with valid := false } else ms[n]

/-- The monitors after an amendment of the record in slot i (R20). -/
def monitorsAfterAmendment (ms : Vector Monitor 16) (i : SlotId) (before after : Record) : Vector Monitor 16 :=
  if counts before after then monitorsWithout ms [i] else ms

/-! ## Admission, departure and suppression -/

/-- A slot whose record changes state (R23, R24). -/
def becomes (x : Slot) (st : RecState) : Slot :=
  { x with record := x.record.map fun r => { r with state := st, cover := .unserved }, mark := false }

/-- A slot when the suppression flag goes from one value to another (R61). -/
def realigned (before now : Bool) (x : Slot) : Slot :=
  match x.record with
  | none => x
  | some r =>
    if before = false ∧ now = true ∧ r.state = .active ∧ (r.cls = .descent ∨ r.cls = .stalk) then becomes x .held
    else if before = true ∧ now = false ∧ r.state = .held then becomes x .active
    else x

/-- The state the admission test gives (R5). -/
def admittedState (a : Arbiter) : RecClass → RecState
  | .stability => if a.listed.length < 4 then .active else .waiting
  | .collision => if a.listed.length < 4 then .active else .waiting
  | .driver => .active
  | .hold => .active
  | .descent => if a.suppression then .held else .active
  | .stalk => if a.suppression then .held else .active

/-- The arbiter's structures after the admission of slot i (R5, R58, R61). -/
def arbiterAdmitting (a : Arbiter) (i : SlotId) (c : RecClass) : Arbiter :=
  if c = .stability ∨ c = .collision then
    if a.listed.length < 4 then
      { a with listed := a.listed ++ [i], suppression := a.suppression || c == .collision }
    else { a with waiting := a.waiting ++ [i] }
  else a

/-- The intervention list after the departure of slot i (R59). -/
def listWithout (a : Arbiter) (i : SlotId) : List SlotId :=
  if i ∈ a.listed then a.listed.erase i ++ a.waiting.head?.toList else a.listed

/-- Whether a list of slots holds a COLLISION record (R61). -/
def holdsCollisionRecord (s : State) (l : List SlotId) : Bool := l.any fun j => (s.record j).any fun r => r.cls == .collision

/-- The arbiter's structures after the departure of slot i (R59, R61). -/
def arbiterWithout (s : State) (i : SlotId) : Arbiter :=
  { listed := listWithout s.arbiter i
    waiting := if i ∈ s.arbiter.listed then s.arbiter.waiting.tail else s.arbiter.waiting.erase i
    suppression := holdsCollisionRecord s (listWithout s.arbiter i) }

/-- Slot j, another slot, after the departure of slot i: the oldest waiting record is admitted to a place that falls vacant,
and the HELD column follows the flag (R9, R59, R61). -/
def slotAfterDeparture (s : State) (i j : SlotId) : Slot :=
  realigned s.arbiter.suppression (arbiterWithout s i).suppression
    (if i ∈ s.arbiter.listed ∧ s.arbiter.waiting.head? = some j then becomes (s.slot j) .active else s.slot j)

/-! ## The refusals tables -/

/-- The slot of the record whose owner is n and whose handle is the handle field (R27). -/
def handleSlot (s : State) (n : Node) (hf : HandleField) : Option SlotId :=
  (List.finRange 24).find? fun i => (s.record i).any fun r => r.owner == n && r.handle.val == hf.val

/-- Whether the record in slot i is STALE. -/
def isStale (s : State) (i : SlotId) : Bool := (s.record i).any fun r => r.state == .stale

/-- The lowest slot that is FREE, or that an OPEN makes FREE (R1, R6). -/
def slotForOpen (s : State) (old : Option SlotId) : Option SlotId :=
  (List.finRange 24).find? fun i => (s.record i).isNone || old == some i

/-- A refusal: its code and the slot its answer carries. -/
abbrev Refused := Option (ResultCode × Option SlotId)

/-- The table of R47: the values of each kind of qualifier, and the classes it is allowed for, on a coach of `axleCount` axles. -/
def validQualifier (t : Settings) (c : RecClass) (q : Qualifier) : Bool :=
  let v := q.value.toNat
  match q.kind with
  | .sources => 1 ≤ v ∧ v ≤ 7
  | .axles => v < 2 ^ min 3 t.axleCount.toNat
  | .onset => c ≠ .stability ∧ (1 ≤ v ∧ v ≤ 20000 ∨ v = 0 ∧ c = .collision)
  | .inhibit => (c = .stability ∨ c = .collision) ∧ v ≤ 7

/-- The last two rows of the tables of R33, R36 and R38. -/
def fieldsRefusal (s : State) (n : Node) (c : RecClass) (fit : Prop) [Decidable fit] (slot : Option SlotId) : Refused :=
  if ¬ fit then some (.classField, slot)
  else if ∃ q ∈ s.quals n, validQualifier s.settings c q = false then some (.classField, slot)
  else none

/-- The force and limit test of CLASS_FIELD on a message that carries a force at byte k and a limit at byte k + 2 (R33, R36,
R38). -/
def fits (c : RecClass) (data : List Byte) (k : Nat) : Bool :=
  if c = .stability then halfAt data k == 0 && halfAt data (k + 2) != 0xFFFF else halfAt data (k + 2) == 0xFFFF

/-- The refusals table of an OPEN (R33). -/
def openRefusal (s : State) (n : Node) (hf : HandleField) (data : List Byte) : Refused :=
  let old := handleSlot s n hf
  if s.ctl.mode = .setup then some (.notRunning, none)
  else if 4 ≤ hf.val then some (.badHandle, none)
  else if data.length < 7 then some (.badLength, none)
  else
    match RecClass.ofCode (byteAt data 0).toNat with
    | none => some (.noRights, none)
    | some c =>
      if s.settings.classRights[n].getLsbD c.code = false then some (.noRights, none)
      else if ∃ i ∈ old, isStale s i = false then some (.handleInUse, old)
      else if old = none ∧ ∀ i : SlotId, (s.record i).isSome = true then some (.tableFull, none)
      else fieldsRefusal s n c (fits c data 2 = true) old

/-- The refusals table of an AMEND (R36). -/
def amendRefusal (s : State) (n : Node) (hf : HandleField) (data : List Byte) : Refused :=
  if s.ctl.mode = .setup then some (.notRunning, none)
  else if 4 ≤ hf.val then some (.badHandle, none)
  else if data.length < 2 then some (.badLength, none)
  else
    match (handleSlot s n hf).bind fun i => (s.record i).map fun r => (i, r.cls) with
    | none => some (.noRecord, none)
    | some (i, c) =>
      if data.length < 5 ∧ isStale s i = true then some (.recordStale, some i)
      else if data.length < 5 then fieldsRefusal s n c (c = .stability → halfAt data 0 = 0) (some i)
      else fieldsRefusal s n c (fits c data 0 = true) (some i)

/-- The refusals table of an AMEND_IF (R38). -/
def amendIfRefusal (s : State) (n : Node) (data : List Byte) : Refused :=
  let named := (List.finRange 24).find? fun i => i.val == (byteAt data 0).toNat
  let held := named.filter fun i => (s.record i).isSome
  if s.ctl.mode = .setup then some (.notRunning, none)
  else if data.length < 7 then some (.badLength, none)
  else
    match held.bind fun i => (s.record i).map fun r => (i, r.cls) with
    | none => some (.reservationLost, held)
    | some (i, c) =>
      if s.monitors[n].valid = false ∨ s.monitors[n].slot ≠ i ∨ s.monitors[n].version ≠ byteAt data 1
          ∨ isStale s i = true ∨ (s.slot i).version ≠ byteAt data 1 then some (.reservationLost, held)
      else fieldsRefusal s n c (fits c data 2 = true) (some i)

/-- The checks RENEW, RELEASE and a QUERY of the handle form share (R39, R40, R41). -/
def handleRefusal (s : State) (n : Node) (hf : HandleField) : Refused :=
  if s.ctl.mode = .setup then some (.notRunning, none)
  else if 4 ≤ hf.val then some (.badHandle, none)
  else if handleSlot s n hf = none then some (.noRecord, none)
  else none

/-- The refusals table of a RESERVE (R42). -/
def reserveRefusal (s : State) (n : Node) (data : List Byte) : Refused :=
  if s.ctl.mode = .setup then some (.notRunning, none)
  else if data.length < 1 then some (.badLength, none)
  else
    match (List.finRange 24).find? fun i => i.val == (byteAt data 0).toNat with
    | none => some (.noRecord, none)
    | some i =>
      match s.record i with
      | none => some (.noRecord, none)
      | some r =>
        if r.state = .stale then some (.recordStale, some i)
        else if r.owner ≠ n ∧ r.shared = false then some (.notShared, some i)
        else if r.owner ≠ n ∧ s.settings.shareRights[n].getLsbD r.cls.code = false then some (.noRights, some i)
        else none

/-- The result of a QUALIFY (R43). -/
def qualifyResult (s : State) (n : Node) (data : List Byte) : ResultCode :=
  if s.ctl.mode = .setup then .notRunning
  else if data.length < 3 then .badLength
  else
    match QualKind.ofCode (byteAt data 0).toNat with
    | none => .classField
    | some k =>
      if (latched (s.quals n) k).isSome then .shadowed
      else if 3 ≤ (s.quals n).length then .latchFull
      else .accepted

/-! ## Samples and passes -/

/-- The mode controller after the report of a pass started with a valid sample (R149, R151, R158). -/
def ctlAfterReport (c : ModeControl) : ModeControl :=
  match c.mode with
  | .setup => c
  | .normal => c
  | .startup => { c with mode := .normal, fallback := false }
  | .hold => { c with mode := .normal, fallback := false }
  | .loss =>
    if c.recovery < 2 then { c with recovery := c.recovery + 1 }
    else { c with mode := .normal, recovery := 0, lossHold := none, fallback := false }
  | .failsafe =>
    if c.recovery < 2 then { c with recovery := c.recovery + 1 }
    else { c with mode := .normal, recovery := 0, lossHold := none, fallback := false }

/-- The state when a pass has started with sample x: the snapshot is taken, every non-FREE slot is marked, the last-used
timestamp is set and the report has been taken (R23, R63, R79, R94, R106, R107). -/
def passStarted (s : State) (x : Sample) : State :=
  let arb := arbitrate s.settings s.demand.slots s.demand.age s.arbiter.listed
  { s with
    intake := { s.intake with lastUsed := some x.ts }
    demand := { s.demand with slots := Vector.ofFn fun i => { s.slot i with mark := (s.record i).isSome } }
    ctl := ctlAfterReport s.ctl
    pass := some
      { sample := x, slots := s.demand.slots, age := s.demand.age
        listed := s.arbiter.listed, waiting := s.arbiter.waiting, health := s.health.values
        arb := arb, cap := capability s.settings x s.health.values arb.sources s.fadeFactors
        hottest := s.hottest, currentStage := s.app.last.stage, fromFailsafe := s.ctl.mode = .failsafe } }

/-- The cover a record of the snapshot earns with D delivered (R23). -/
def coverEarned (r : Record) (d : Nat) : Cover :=
  if r.state ≠ .active then .unserved
  else if r.cls = .stability then .covered
  else if r.force ≤ d then .covered
  else .part

/-- A figure under the health of its brake: DEGRADED halves it, FAULT leaves 0 (R97, R104). -/
def underHealth (h : Health) (x : Nat) : Nat :=
  match h with
  | .ok => x
  | .degraded => x / 2
  | .fault => 0

/-- The force of a stage of a capability, none when the stage is not available (R98, R100). -/
def stageAt (c : Capability) (s : Fin 3) : Option Nat := if s = 0 then some 0 else if s = 1 then c.stage1 else c.stage2

/-- The distribution between two rounds: the shares, the candidates left in A and the amount still to be placed (R120). -/
structure Board where
  shares : Vector Nat 3
  a      : AxleSet
  amount : Nat
  deriving DecidableEq, Repr

/-- The sum of a figure over the axles of a set. -/
def sumOver (a : AxleSet) (x : AxleId → Nat) : Nat :=
  (if a[0] = true then x 0 else 0) + (if a[1] = true then x 1 else 0) + (if a[2] = true then x 2 else 0)

/-- The first board: the amount R, every candidate in A, every share 0 (R118). -/
def firstBoard (candidates : AxleSet) (r : Nat) : Board :=
  { shares := Vector.replicate 3 0, a := candidates, amount := r }

/-- One sharing round (R120): every candidate in A adds what R119 gives it; one that is then above its Csvc_j is set to it and
leaves A, and the amounts above make up the pool. With nothing to place or no weight in A the distribution has ended. -/
def Board.next (w csvc : Vector Nat 3) (b : Board) : Board :=
  if b.amount = 0 ∨ sumOver b.a (fun j => w[j]) = 0 then b
  else
    let share (j : AxleId) : Nat := b.shares[j] + (roundShares w b.a b.amount)[j]
    { shares := Vector.ofFn fun j => if b.a[j] = true then min (share j) csvc[j] else b.shares[j]
      a := Vector.ofFn fun j => b.a[j] && decide (share j ≤ csvc[j])
      amount := sumOver b.a fun j => share j - csvc[j] }

/-! ## The chassis link -/

/-- Whether k is the kind of the lowest identifier among the frames offered (R124). -/
abbrev firstOffered (c : ChassisTx) (k : Fin 4) : Prop := c.slots[k].front ≠ none ∧ ∀ j < k, c.slots[j].front = none

/-! ## The setting port -/

/-- One setting of the image, as the tables of R53, R165 and R183 give it: its index, the field that stands for it in an image,
its range, its value after power-on, and whether it is a temperature in °C or a multiple of 5. -/
structure Row where
  index   : Nat
  field   : Half
  low     : Int
  high    : Int
  powerOn : Int
  celsius : Bool
  fives   : Bool
  deriving DecidableEq, Repr

/-- A row of an unsigned setting. -/
def row (index : Nat) (field : Half) (low high powerOn : Int) : Row :=
  { index := index, field := field, low := low, high := high, powerOn := powerOn, celsius := false, fives := false }

/-- A row of a temperature, carried in two's complement (R184). -/
def degrees (index : Nat) (field : Half) (low high powerOn : Int) : Row :=
  { row index field low high powerOn with celsius := true }

/-- The number that a field carries for a setting (R184). -/
def Row.number (r : Row) (x : Half) : Int := if r.celsius = true then x.toInt else (x.toNat : Int)

/-- Whether a field is in the range of a setting (R164). -/
def Row.admits (r : Row) (x : Half) : Prop :=
  r.low ≤ r.number x ∧ r.number x ≤ r.high ∧ (r.fives = true → x.toNat % 5 = 0)

/-- The columns of class c that every class holds, with the power-on values of its row of R53: default sources, lease min and
max, stale grace. -/
def classColumns (t : Settings) (c : Fin 6) (sources leaseMin leaseMax grace : Int) : List Row :=
  let r := t.classRows[c]
  [row (0x10 + 8 * c) r.sources 1 7 sources, row (0x13 + 8 * c) r.leaseMin 1 255 leaseMin,
   row (0x14 + 8 * c) r.leaseMax 1 255 leaseMax, row (0x15 + 8 * c) r.grace 1 255 grace]

/-- The settings of an image by the tables of R53 (a mask has RET in bit 0, EXH in bit 1, SVC in bit 2), R165 and R183. -/
def settingRows (t : Settings) : List Row := List.flatten
  [[row 0x01 t.protocolTag 0 0x1FFF 0x0B5A, row 0x02 t.qualifierHold 10 250 40],
   classColumns t 0 4 2 20 10, classColumns t 1 7 2 20 10, classColumns t 2 7 2 50 20,
   classColumns t 3 4 5 255 50, classColumns t 4 7 5 100 50, classColumns t 5 3 5 100 50,
   [row 0x11 t.inhibits[0] 0 7 3, row 0x19 t.inhibits[1] 0 7 0],
   [row 0x1A t.onsets[0] 0 20000 0, row 0x22 t.onsets[1] 1 20000 4000, row 0x2A t.onsets[2] 1 20000 1500,
    row 0x32 t.onsets[3] 1 20000 800, row 0x3A t.onsets[4] 1 20000 600],
   (List.finRange 16).map fun (m : Node) => row (0x40 + 2 * m) t.classRights[m] 0 255 0,
   (List.finRange 16).map fun (m : Node) => row (0x41 + 2 * m) t.shareRights[m] 0 255 0,
   [row 0x60 t.sampleTimeout 5 100 15, row 0x61 t.statusTimeout 20 500 100, row 0x62 t.nominalMass 50 280 180,
    row 0x70 t.axleCount 0 255 0, row 0x71 t.rDyn 400 600 495, row 0x72 t.mu 10 100 60],
   (List.finRange 3).map fun (j : AxleId) => row (0x74 + j) t.gain[j] 20 400 100,
   (List.finRange 3).map fun (j : AxleId) => { row (0x78 + j) t.pmax[j] 200 1000 600 with fives := true },
   (List.finRange 17).map fun (k : Fin 17) => row (0x80 + k) t.retPoints[k] 0 2500 0,
   (List.finRange 17).map fun (k : Fin 17) => row (0xA0 + k) t.stage1Points[k] 0 400 0,
   (List.finRange 17).map fun (k : Fin 17) => row (0xC0 + k) t.stage2Points[k] 0 400 0,
   (List.finRange 3).map fun (j : AxleId) => row (0xE0 + j) t.split[j] 0 100 0,
   [row 0xE4 t.retPitch 0 3 0, row 0xE5 t.exhPitch 0 3 0, row 0xE6 t.exhOrigin 400 1200 600,
    degrees 0xF0 t.tder (-40) 210 140, degrees 0xF1 t.tcut (-40) 210 165,
    row 0x100 t.releaseRate 1 20000 3000, row 0x101 t.hysteresis 0 200 30],
   (List.finRange 3).map fun (j : AxleId) => row (0x110 + j) t.cth[j] 50 2000 400,
   (List.finRange 3).map fun (j : AxleId) => row (0x114 + j) t.tau[j] 60 3600 600,
   [degrees 0x118 t.ts 0 900 300, degrees 0x119 t.te 0 900 500, row 0x11A t.fadeFloor 64 256 128,
    degrees 0x11B t.initialTemp (-40) 600 150, row 0x120 t.dutyThreshold 10 65535 1200,
    row 0x121 t.lossHold 100 5000 1000]]

/-- The live values and their indexes (R183). -/
def liveRows : List (Nat × LiveIndex) :=
  [(0x200, .mode), (0x201, .resetCause), (0x202, .settingsValid), (0x203, .slotsInUse), (0x204, .interventionCount),
   (0x205, .waitingCount), (0x208, .temperature 0), (0x209, .temperature 1), (0x20A, .temperature 2),
   (0x20C, .dutyCount), (0x20D, .dutyBits), (0x20E, .passCount), (0x20F, .fcmd)]

/-- The state when a transfer of these four bytes has been taken with this status and value (R159, R160). -/
def replied (s : State) (bytes : List Byte) (st : PortStatus) (value : Half) : State :=
  { s with port := { s.port with
      response := { status := st, value := value }, input := [], out := s.port.response.bytes.take bytes.length
        ++ List.replicate (bytes.length - 4) 0 } }

/-- A state with the select pointer at none. -/
def unselected (s : State) : State := { s with port := { s.port with pointer := none } }

end Sys2Proof.Claims
end

