-- ==== Sys2Proof/Certificates/Slice0/Obligations.lean ====
section
/-! DEFINITION. The statements about the part, for the provers. Each docstring names the rules it is read from. -/

open Sys2Proof Sys2Proof.Machine Sys2Proof.Claims

/-! ## The queue, time and resets -/

/-- A step takes the command at the front of the queue and runs its meaning on the state with the queue's rest. The queue is
the model's own (log entry 11). -/
def Obligations.StepTakesFrontCommand : Prop :=
  ∀ (c : Instr) (rest : List Instr) (s : State), step { s with pending := c :: rest } = exec c { s with pending := rest }

/-- No command stops the part, whatever the state; no command reads or changes the queue of waiting commands. That an event
which cannot occur leaves the state is the model's choice (log entry 4). -/
def Obligations.NoCommandStops : Prop :=
  ∀ (c : Instr) (s : State) (queue : List Instr), ∃ t : State,
    exec c s = .next t ∧ t.pending = s.pending ∧ exec c { s with pending := queue } = .next { t with pending := queue }

/-- The model's choice (log entry 1): an idle step is one millisecond. While every running countdown has 2 ms or more left
(R15, R45, R81, R84, R144), each falls by one and nothing else changes. While one alone has 1 ms left, the step is the event at
its end, taken where the others have fallen by one (log entries 1 and 2). -/
def Obligations.QuietMillisecond : Prop :=
  ∀ s : State, s.pending = [] → s.inReset = false →
    ((∀ d : Timer, ∀ k ∈ left s d, 2 ≤ k) → step s = .next (lessOne s))
    ∧ ∀ c : Timer, left s c = some 1 → (∀ d : Timer, d ≠ c → ∀ k ∈ left s d, 2 ≤ k) →
        (∀ i : SlotId, c = .slot i → s.record i ≠ none) → (c = .lossHold → s.ctl.mode = .loss) →
        step s = exec (expiryOf s c) (lessOne s)

/-- While a reset lasts no command but the beginning of a reset and its end changes anything, nor does time (R146); at its
end events are taken again and the response register holds RESTARTED with value 0 (R159). -/
def Obligations.ResetTakesNoEvent : Prop :=
  ∀ s : State, s.inReset = true →
    (∀ c : Instr, c ≠ .powerOn → c ≠ .lineReset → c ≠ .supplyDip → c ≠ .resetEnd → exec c s = .next s)
    ∧ step { s with pending := [] } = .next { s with pending := [] }
    ∧ exec .resetEnd s = .next { s with
        inReset := false, port := { s.port with response := { status := .restarted, value := 0 } } }

/-- What the beginning of each reset leaves (R25, R44, R50, R57, R61, R82, R87, R108, R124, R127, R138, R143, R144, R146, R159,
R165), with the power-on values of the settings (R53, R165). That the response register and the bytes last clocked out stand is
the model's inference (log entry 12), and that its count of free values is kept is the model's choice (log entry 14). -/
def Obligations.ResetEffects : Prop :=
  ∀ s : State,
    let cleared (cause : ResetCause) (m : Mode) (valid : Bool) : State :=
      { pending := s.pending
        inReset := true
        vehicleTx := []
        latches := Vector.replicate 16 { quals := [], hold := none }
        demand :=
          { slots := Vector.replicate 24 { record := none, version := 0, countdown := none, mark := false }, age := [] }
        monitors := Vector.replicate 16 { slot := 0, version := 0, valid := false }
        arbiter := { listed := [], waiting := [], suppression := false }
        intake := { s.intake with pendingA := none, held := none, lastUsed := none, timer := none }
        health :=
          { retarder := { value := .fault, timer := none }
            exhaust := { value := .fault, timer := none }
            modulator := Vector.replicate 3 { value := .fault, timer := none } }
        settings := s.settings
        app :=
          { fcmd := 0, rho := 0, dir := .level
            last := { ret := 0, stage := 0, pressure := Vector.replicate 3 0 }, passCount := 0 }
        pass := none
        chassisTx := { slots := Vector.replicate 4 { front := none, begun := false, behind := none }, onAir := none }
        accounts := s.accounts
        duty := { running := false, count := 0, warn := false }
        ctl :=
          { mode := m, settingsValid := valid, cause := cause, recovery := 0, lossHold := none, sigma := 0
            fallback := true }
        port := { s.port with pointer := none, input := [] }
        freeCount := s.freeCount }
    let kept : Mode := if s.ctl.settingsValid = true then .startup else .setup
    (∀ r ∈ settingRows powerOnSettings, r.number r.field = r.powerOn)
    ∧ exec .powerOn s = .next { cleared .powerOn .setup false with
        settings := powerOnSettings
        accounts := Vector.replicate 3 none
        intake :=
          { pendingA := none, held := none, lastUsed := none, lastV := none, lastAmbient := 20, timer := none } }
    ∧ exec .lineReset s = .next (cleared .line kept s.ctl.settingsValid)
    ∧ exec .supplyDip s = .next (cleared .supplyDip kept s.ctl.settingsValid)

/-! ## OPEN -/

/-- An OPEN that passes the table of R33 creates its record, by R5, or by R6 on the handle of a STALE record (R1, R4, R18, R20,
R31, R32, R46, R48, R58, R61). -/
def Obligations.OpenAdmitted : Prop :=
  ∀ (s : State) (n : Node) (h : Fin 4) (hf : HandleField) (data : List Byte) (c : RecClass) (i : SlotId),
    s.inReset = false → openRefusal s n hf data = none → hf.val = h.val →
    RecClass.ofCode (byteAt data 0).toNat = some c → slotForOpen s (handleSlot s n hf) = some i →
    ((s.quals n).map Qualifier.kind).Nodup → ArbiterLaw s →
    let old := (handleSlot s n hf).toList
    let row := s.settings.classRows[c.row]
    let inhibit : Option SourceSet := match c with
      | .stability => some (.ofMask s.settings.inhibits[0])
      | .collision => some (.ofMask s.settings.inhibits[1])
      | .driver => none
      | .hold => none
      | .descent => none
      | .stalk => none
    let r : Record := withQualifiers
      { owner := n, handle := h, cls := c, shared := (byteAt data 1).getLsbD 0
        state := admittedState s.arbiter c
        force := clampForce (halfAt data 2), limit := clampLimit (halfAt data 4)
        sources := .ofMask row.sources, exclusion := Vector.replicate 3 false, onset := none, inhibit := inhibit
        leasePeriod := clampLease row (byteAt data 6), nextLease := none, cover := .unserved } (s.quals n)
    exec (.openRecord n hf data) s = .next { s with
      latches := s.latches.set n { quals := [], hold := none }
      demand :=
        { slots := Vector.ofFn fun j =>
            if j = i then
              { record := some r, version := (s.slot i).version + 1, countdown := some (10 * r.leasePeriod), mark := false }
            else if j ∈ old then { s.slot j with record := none, countdown := none, mark := false }
            else realigned s.arbiter.suppression (arbiterAdmitting s.arbiter i c).suppression (s.slot j)
          age := s.demand.age.diff old ++ [i] }
      monitors := monitorsWithout s.monitors (i :: old)
      arbiter := arbiterAdmitting s.arbiter i c
      vehicleTx := joined s.vehicleTx
        [answer s .openRecord n hf (if r.state = .waiting then .queued else .accepted)
          (flagsByte (clampedAt row data 2) (s.quals n)) 0
          (about i (some r.state) ((s.slot i).version + 1) .unserved)] }

/-- An OPEN that fails the table of R33 is answered with the code of the first row it fails, empties the sender's latch and
changes nothing else (R30, R33, R46). A latched qualifier is valid exactly when the table of R47 says so. -/
def Obligations.OpenRefused : Prop :=
  (∀ (t : Settings) (c : RecClass) (q : Qualifier), q.validFor t c = validQualifier t c q)
  ∧ ∀ (s : State) (n : Node) (hf : HandleField) (data : List Byte) (code : ResultCode) (slot : Option SlotId),
    s.inReset = false → openRefusal s n hf data = some (code, slot) →
    exec (.openRecord n hf data) s = .next { s with
      latches := s.latches.set n { quals := [], hold := none }
      vehicleTx := joined s.vehicleTx [answer s .openRecord n hf code 0 0 (aboutStanding s slot)] }

/-! ## AMEND and AMEND_IF -/

/-- A compact AMEND that passes the table of R36 sets the force, applies the latched qualifiers, renews the lease by steps 1
and 2 of R16, and counts for the version when content changed (R7, R18, R20, R34, R46). -/
def Obligations.AmendCompactApplied : Prop :=
  ∀ (s : State) (n : Node) (hf : HandleField) (data : List Byte) (i : SlotId) (r : Record),
    s.inReset = false → data.length < 5 → amendRefusal s n hf data = none → handleSlot s n hf = some i →
    s.record i = some r → ((s.quals n).map Qualifier.kind).Nodup →
    let q := amended r (s.quals n) (clampForce (halfAt data 0)) r.limit none
    exec (.amendCompact n hf data) s = .next { s with
      latches := s.latches.set n { quals := [], hold := none }
      demand := { s.demand with slots := s.demand.slots.set i (amendedSlot (s.slot i) r q) }
      monitors := monitorsAfterAmendment s.monitors i r q
      vehicleTx := joined s.vehicleTx
        [answer s .amend n hf .accepted (flagsByte (forceClamped (halfAt data 0)) (s.quals n)) 0
          (about i (some r.state) (amendedSlot (s.slot i) r q).version r.cover)] }

/-- A full-form AMEND on a record in ACTIVE, HELD or WAITING sets force and limit, applies the latched qualifiers and renews
the lease by all three steps of R16 (R7, R18, R20, R35, R46). -/
def Obligations.AmendFullApplied : Prop :=
  ∀ (s : State) (n : Node) (hf : HandleField) (data : List Byte) (i : SlotId) (r : Record),
    s.inReset = false → 5 ≤ data.length → amendRefusal s n hf data = none → handleSlot s n hf = some i →
    s.record i = some r → r.state ≠ .stale → ((s.quals n).map Qualifier.kind).Nodup →
    let row := s.settings.classRows[r.cls.row]
    let q := amended r (s.quals n) (clampForce (halfAt data 0)) (clampLimit (halfAt data 2))
      (some (clampLease row (byteAt data 4)))
    exec (.amendFull n hf data) s = .next { s with
      latches := s.latches.set n { quals := [], hold := none }
      demand := { s.demand with slots := s.demand.slots.set i (amendedSlot (s.slot i) r q) }
      monitors := monitorsAfterAmendment s.monitors i r q
      vehicleTx := joined s.vehicleTx
        [answer s .amend n hf .accepted (flagsByte (clampedAt row data 0) (s.quals n)) 0
          (about i (some r.state) (amendedSlot (s.slot i) r q).version r.cover)] }

/-- A full-form AMEND on a STALE record revives it: the record keeps its slot and age, is amended as any other, and the
admission test gives its state; its cover is UNSERVED (R11, R24, R35, R58, R61). -/
def Obligations.AmendFullRevives : Prop :=
  ∀ (s : State) (n : Node) (hf : HandleField) (data : List Byte) (i : SlotId) (r : Record),
    s.inReset = false → 5 ≤ data.length → amendRefusal s n hf data = none → handleSlot s n hf = some i →
    s.record i = some r → r.state = .stale → ((s.quals n).map Qualifier.kind).Nodup → ArbiterLaw s →
    let row := s.settings.classRows[r.cls.row]
    let q : Record :=
      { amended r (s.quals n) (clampForce (halfAt data 0)) (clampLimit (halfAt data 2))
          (some (clampLease row (byteAt data 4))) with
        state := admittedState s.arbiter r.cls, cover := .unserved }
    exec (.amendFull n hf data) s = .next { s with
      latches := s.latches.set n { quals := [], hold := none }
      demand :=
        { s.demand with
          slots := Vector.ofFn fun j =>
            if j = i then { amendedSlot (s.slot i) r q with mark := false }
            else realigned s.arbiter.suppression (arbiterAdmitting s.arbiter i r.cls).suppression (s.slot j) }
      monitors := monitorsAfterAmendment s.monitors i r q
      arbiter := arbiterAdmitting s.arbiter i r.cls
      vehicleTx := joined s.vehicleTx
        [answer s .amend n hf (if q.state = .waiting then .queued else .accepted)
          (flagsByte (clampedAt row data 0) (s.quals n)) 0
          (about i (some q.state) (amendedSlot (s.slot i) r q).version .unserved)] }

/-- An AMEND of either form that fails the table of R36 is answered with the code of the first row it fails, empties the
sender's latch and changes nothing else (R30, R36, R46). That the length of the data selects the form, whichever command carries
it, is the model's inference (log entry 9). -/
def Obligations.AmendRefused : Prop :=
  ∀ (s : State) (n : Node) (hf : HandleField) (data : List Byte) (code : ResultCode) (slot : Option SlotId),
    s.inReset = false → amendRefusal s n hf data = some (code, slot) →
    ∀ c : Instr, c = .amendCompact n hf data ∨ c = .amendFull n hf data →
    exec c s = .next { s with
      latches := s.latches.set n { quals := [], hold := none }
      vehicleTx := joined s.vehicleTx [answer s .amend n hf code 0 0 (aboutStanding s slot)] }

/-- An AMEND_IF that passes the table of R38 amends the record in the named slot as a full-form AMEND would, and the sender's
monitor is cleared (R20, R21, R37). -/
def Obligations.AmendIfApplied : Prop :=
  ∀ (s : State) (n : Node) (hf : HandleField) (data : List Byte) (i : SlotId) (r : Record),
    s.inReset = false → amendIfRefusal s n data = none → i.val = (byteAt data 0).toNat → s.record i = some r →
    ((s.quals n).map Qualifier.kind).Nodup →
    let row := s.settings.classRows[r.cls.row]
    let q := amended r (s.quals n) (clampForce (halfAt data 2)) (clampLimit (halfAt data 4))
      (some (clampLease row (byteAt data 6)))
    exec (.amendIf n hf data) s = .next { s with
      latches := s.latches.set n { quals := [], hold := none }
      demand := { s.demand with slots := s.demand.slots.set i (amendedSlot (s.slot i) r q) }
      monitors := monitorsAfterAmendment (s.monitors.set n { s.monitors[n] with valid := false }) i r q
      vehicleTx := joined s.vehicleTx
        [answer s .amendIf n hf .accepted (flagsByte (clampedAt row data 2) (s.quals n)) 0
          (about i (some r.state) (amendedSlot (s.slot i) r q).version r.cover)] }

/-- An AMEND_IF that fails the table of R38 is answered with the code of the first row it fails, empties the sender's latch,
clears the sender's monitor and changes nothing else (R20, R30, R38, R46). -/
def Obligations.AmendIfRefused : Prop :=
  ∀ (s : State) (n : Node) (hf : HandleField) (data : List Byte) (code : ResultCode) (slot : Option SlotId),
    s.inReset = false → amendIfRefusal s n data = some (code, slot) →
    exec (.amendIf n hf data) s = .next { s with
      latches := s.latches.set n { quals := [], hold := none }
      monitors := s.monitors.set n { s.monitors[n] with valid := false }
      vehicleTx := joined s.vehicleTx [answer s .amendIf n hf code 0 0 (aboutStanding s slot)] }

/-- An AMEND_IF changes a slot only if the sender's monitor is valid and names that slot at the version its record, in ACTIVE,
HELD or WAITING, stands at (R21). -/
def Obligations.AmendIfNeedsReservation : Prop :=
  ∀ (s t : State) (n : Node) (hf : HandleField) (data : List Byte) (i : SlotId),
    exec (.amendIf n hf data) s = .next t → t.slot i ≠ s.slot i →
    s.monitors[n].valid = true ∧ s.monitors[n].slot = i ∧ s.monitors[n].version = (s.slot i).version
      ∧ ∃ r ∈ s.record i, r.state ≠ .stale

/-- The clamp of a carried lease period against the bounds of the class, that RUN checks no lease bound, and that the clamped
value is the one compared with the period in force (R55); and the clamps of a carried force and limit, FFFFh being no limit
(R31). -/
def Obligations.LeaseClamp : Prop :=
  (∀ x : Half,
    (x.toNat ≤ 2500 → clampForce x = x.toNat ∧ forceClamped x = false)
    ∧ (2500 < x.toNat → clampForce x = 2500 ∧ forceClamped x = true)
    ∧ (x.toNat ≤ 2500 → clampLimit x = some x.toNat ∧ limitClamped x = false)
    ∧ (2500 < x.toNat → x.toNat ≤ 0xFFFE → clampLimit x = some 2500 ∧ limitClamped x = true)
    ∧ (x.toNat = 0xFFFF → clampLimit x = none ∧ limitClamped x = false))
  ∧ ∀ (row : ClassRow) (p : Byte),
    let low := row.leaseMin.toNat
    let high := row.leaseMax.toNat
    (low ≤ high → p.toNat < low → clampLease row p = low ∧ leaseClamped row p = true)
    ∧ (low ≤ p.toNat → high < p.toNat → clampLease row p = high ∧ leaseClamped row p = true)
    ∧ (low ≤ p.toNat → p.toNat ≤ high → clampLease row p = p.toNat ∧ leaseClamped row p = false)
    ∧ (high < low → clampLease row p = high ∧ leaseClamped row p = true)
    ∧ (1 ≤ low → p = 0 → leaseClamped row p = true)
    ∧ (∀ (r : Record) (data : List Byte) (k : Nat) (quals : List Qualifier), byteAt data (k + 4) = p →
        ((r.amended (carriedFull row data k) quals).nextLease = none
          ↔ clampLease row p = r.nextLease.getD r.leasePeriod))
    ∧ ∀ (t : Settings) (c : Fin 6) (x : Half),
        inconsistency (t.set (.classLeaseMin c) x) = inconsistency t
        ∧ inconsistency (t.set (.classLeaseMax c) x) = inconsistency t

/-! ## RENEW, RELEASE, QUERY, RESERVE, QUALIFY -/

/-- A RENEW of a record in ACTIVE, HELD or WAITING promotes a staged lease period and restarts the countdown; it changes no
content field, no version and no monitor (R16, R39). -/
def Obligations.RenewApplied : Prop :=
  ∀ (s : State) (n : Node) (hf : HandleField) (data : List Byte) (i : SlotId) (r : Record),
    s.inReset = false → handleRefusal s n hf = none → handleSlot s n hf = some i → s.record i = some r →
    r.state ≠ .stale →
    let period := r.nextLease.getD r.leasePeriod
    exec (.renew n hf data) s = .next { s with
      demand :=
        { s.demand with
          slots := s.demand.slots.set i
            { s.slot i with
              record := some { r with leasePeriod := period, nextLease := none }, countdown := some (10 * period) } }
      vehicleTx := joined s.vehicleTx
        [answer s .renew n hf .accepted 0 (s.quals n).length (about i (some r.state) (s.slot i).version r.cover)] }

/-- A RELEASE frees the sender's record from any state: its slot leaves the age order, its countdown stops, the monitors that
name it are cleared, the sender's latch is emptied, and a departure admits the oldest waiting record and brings suppression
into line (R9, R13, R40, R59, R61). -/
def Obligations.ReleaseApplied : Prop :=
  ∀ (s : State) (n : Node) (hf : HandleField) (data : List Byte) (i : SlotId),
    s.inReset = false → handleRefusal s n hf = none → handleSlot s n hf = some i → ArbiterLaw s →
    exec (.release n hf data) s = .next { s with
      latches := s.latches.set n { quals := [], hold := none }
      demand :=
        { slots := Vector.ofFn fun j =>
            if j = i then { s.slot i with record := none, countdown := none, mark := false } else slotAfterDeparture s i j
          age := s.demand.age.erase i }
      monitors := monitorsWithout s.monitors [i]
      arbiter := arbiterWithout s i
      vehicleTx := joined s.vehicleTx
        [answer s .release n hf .accepted 0 0 (about i none (s.slot i).version .unserved)] }

/-- A QUERY that finds a record, by handle without data or by slot with data, is answered with its report and changes nothing
else (R41, R49, R51). -/
def Obligations.QueryReported : Prop :=
  ∀ (s : State) (n : Node) (hf : HandleField) (data : List Byte) (i : SlotId) (r : Record),
    s.inReset = false → s.record i = some r →
    (data = [] ∧ handleRefusal s n hf = none ∧ handleSlot s n hf = some i)
      ∨ (data ≠ [] ∧ s.ctl.mode ≠ .setup ∧ i.val = (byteAt data 0).toNat) →
    exec (.query n hf data) s = .next { s with vehicleTx := joined s.vehicleTx (report s n i r) }

/-- RENEW, RELEASE and QUERY refused by the tables of R39, R40 and R41 are answered and change nothing else (R30). -/
def Obligations.LookupRefused : Prop :=
  ∀ (s : State) (n : Node) (hf : HandleField) (data : List Byte), s.inReset = false →
    let reply (k : MsgKind) (code : ResultCode) (slot : Option SlotId) : State :=
      { s with vehicleTx := joined s.vehicleTx [answer s k n hf code 0 (s.quals n).length (aboutStanding s slot)] }
    (∀ code slot, handleRefusal s n hf = some (code, slot) →
      exec (.renew n hf data) s = .next (reply .renew code slot)
      ∧ exec (.release n hf data) s = .next (reply .release code slot)
      ∧ exec (.query n hf []) s = .next (reply .query code slot))
    ∧ (∀ i, handleRefusal s n hf = none → handleSlot s n hf = some i → isStale s i = true →
      exec (.renew n hf data) s = .next (reply .renew .recordStale (some i)))
    ∧ (data ≠ [] → s.ctl.mode = .setup → exec (.query n hf data) s = .next (reply .query .notRunning none))
    ∧ (data ≠ [] → s.ctl.mode ≠ .setup →
      (∀ i : SlotId, i.val = (byteAt data 0).toNat → s.record i = none) →
      exec (.query n hf data) s = .next (reply .query .noRecord none))

/-- A RESERVE by the table of R42: refused, it clears the sender's monitor and is answered; accepted, it sets the monitor to the
slot and the record's version and is answered with the report (R19, R49). -/
def Obligations.ReserveOutcome : Prop :=
  ∀ (s : State) (n : Node) (hf : HandleField) (data : List Byte), s.inReset = false →
    (∀ code slot, reserveRefusal s n data = some (code, slot) →
      exec (.reserve n hf data) s = .next { s with
        monitors := s.monitors.set n { s.monitors[n] with valid := false }
        vehicleTx := joined s.vehicleTx
          [answer s .reserve n hf code 0 (s.quals n).length (aboutStanding s slot)] })
    ∧ (∀ i r, reserveRefusal s n data = none → i.val = (byteAt data 0).toNat → s.record i = some r →
      exec (.reserve n hf data) s = .next { s with
        monitors := s.monitors.set n { slot := i, version := (s.slot i).version, valid := true }
        vehicleTx := joined s.vehicleTx (report s n i r) })

/-- A QUALIFY by the table of R43: accepted, the qualifier joins the latch at its end, and the hold timer starts if the latch
was empty; otherwise the latch stands. The answer carries the count after the message (R44, R45). -/
def Obligations.QualifyOutcome : Prop :=
  ∀ (s : State) (n : Node) (hf : HandleField) (data : List Byte), s.inReset = false →
    (qualifyResult s n data ≠ .accepted →
      exec (.qualify n hf data) s = .next { s with
        vehicleTx := joined s.vehicleTx
          [answer s .qualify n hf (qualifyResult s n data) 0 (s.quals n).length [0xFF, 0, 0, 0]] })
    ∧ (∀ k : QualKind, qualifyResult s n data = .accepted → QualKind.ofCode (byteAt data 0).toNat = some k →
      exec (.qualify n hf data) s = .next { s with
        latches := s.latches.set n
          { quals := s.quals n ++ [{ kind := k, value := halfAt data 1 }]
            hold := if s.quals n = [] then some s.settings.qualifierHold.toNat else s.latches[n].hold }
        vehicleTx := joined s.vehicleTx
          [answer s .qualify n hf .accepted 0 ((s.quals n).length + 1) [0xFF, 0, 0, 0]] })

/-! ## Frames -/

/-- A vehicle-link frame that fails the filter of R26 and a chassis-link frame that R181 hands on to no block change nothing; a
frame that R181 hands on is read as sample frame A, sample frame B or health frame with the fields of R180; a frame with the
identifier of R173 and a requester kind is read as the message of that kind (R27, R29). That an AMEND of 0 or 1 byte, which R29 and
R174 give to neither form, is read as a compact one is the model's inference (log entry 9). -/
def Obligations.FramesFiltered : Prop :=
  (∀ (s : State) (f : CanFrame),
    f.extended = false ∨ f.remote = true ∨ (f.id >>> 16).setWidth 16 ≠ s.settings.protocolTag ∨ f.id.setWidth 4 ≠ 0#4
      ∨ f.id.toNat / 4096 % 16 = 0 ∨ 9 ≤ f.id.toNat / 4096 % 16 →
    exec (.vehicleFrameIgnored f) s = .next s)
  ∧ (∀ (s : State) (f : CanFrame),
    f.extended = true ∨ f.remote = true
      ∨ ¬ (f.id = 0x120 ∧ 8 ≤ f.data.length) ∧ ¬ (f.id = 0x121 ∧ 7 ≤ f.data.length)
        ∧ ¬ (f.id = 0x140 ∧ 2 ≤ f.data.length) →
    exec (.chassisFrameIgnored f) s = .next s)
  ∧ (∀ (a b c d e f g h : Byte) (more : List Byte),
    let read (id : BitVec 29) (data : List Byte) : Option Instr :=
      decodeChassisFrame { extended := false, remote := false, id := id, data := data ++ more }
    read 0x120 [a, b, c, d, e, f, g, h] = some (.sampleFrameA (b ++ a) (d ++ c) (f ++ e) (h ++ g))
    ∧ read 0x121 [a, b, c, d, e, f, g] = some (.sampleFrameB (b ++ a) c d e f g)
    ∧ read 0x140 [a, b] = some (.healthFrame a b))
  ∧ (∀ (tag : Half) (n : Node) (h : HandleField) (data : List Byte), tag.toNat < 8192 →
    let read (kind : BitVec 4) : Option Instr := decodeVehicleFrame tag
      { extended := true, remote := false
        id := vehicleId tag kind (BitVec.ofNat 4 n) (BitVec.ofNat 4 h), data := data }
    read 1 = some (.openRecord n h data)
    ∧ read 2 = some (if data.length < 5 then .amendCompact n h data else .amendFull n h data)
    ∧ read 3 = some (.amendIf n h data) ∧ read 4 = some (.renew n h data) ∧ read 5 = some (.release n h data)
    ∧ read 6 = some (.query n h data) ∧ read 7 = some (.reserve n h data) ∧ read 8 = some (.qualify n h data))

/-- The layouts of the vehicle-link identifier (R173), of SUMMARY A (R178) and of SUMMARY B (10, section SUMMARY B); the numbers
of the message kinds (R27), of the eight encodings of R172 and of the result codes (R176); and the order of the bytes of a field
(00, Conventions). -/
def Obligations.FrameLayouts : Prop :=
  [MsgKind.openRecord, .amend, .amendIf, .renew, .release, .query, .reserve, .qualify].map MsgKind.code
      = [1, 2, 3, 4, 5, 6, 7, 8]
  ∧ [ResultCode.accepted, .queued, .shadowed, .latchFull, .notRunning, .noRights, .badHandle, .handleInUse, .noRecord,
      .tableFull, .recordStale, .classField, .reservationLost, .notShared, .badLength].map ResultCode.code
      = [0x00, 0x01, 0x02, 0x03, 0x10, 0x11, 0x12, 0x13, 0x14, 0x15, 0x16, 0x17, 0x18, 0x19, 0x1A]
  ∧ [RecClass.stability, .collision, .driver, .hold, .descent, .stalk].map RecClass.code = [0, 1, 2, 3, 4, 5]
  ∧ [none, some RecState.active, some .held, some .waiting, some .stale].map recStateCode = [0, 1, 2, 3, 4]
  ∧ [Cover.unserved, .part, .covered].map Cover.code = [0, 1, 2]
  ∧ [Mode.setup, .startup, .normal, .hold, .loss, .failsafe].map Mode.code = [0, 1, 2, 3, 4, 5]
  ∧ [Band.cool, .warm, .hot].map Band.code = [0, 1, 2]
  ∧ (∀ (n : Nat) (c : RecClass), RecClass.ofCode n = some c ↔ c.code = n)
  ∧ (∀ (n : Nat) (k : QualKind),
    QualKind.ofCode n = some k ↔ (n, k) ∈ [(1, .sources), (2, .axles), (3, .onset), (4, .inhibit)])
  ∧ (∀ m : Half, SourceSet.ofMask m = { ret := m.getLsbD 0, exh := m.getLsbD 1, svc := m.getLsbD 2 }
    ∧ ∀ j : AxleId, (axleSetOfMask m)[j] = m.getLsbD j)
  ∧ (∀ x : SourceSet, x.mask = (if x.ret = true then 1 else 0) + (if x.exh = true then 2 else 0)
    + (if x.svc = true then 4 else 0))
  ∧ (∀ x : AxleSet, axleMask x = sumOver x fun j => 2 ^ j.val)
  ∧ (∀ (data : List Byte) (k : Nat), (∀ b ∈ data[k]?, byteAt data k = b)
    ∧ (halfAt data k).toNat = (byteAt data k).toNat + 256 * (byteAt data (k + 1)).toNat)
  ∧ (∀ (tag : Half) (kind node handle : BitVec 4), tag.toNat < 8192 →
    (vehicleId tag kind node handle).toNat
      = tag.toNat * 65536 + kind.toNat * 4096 + node.toNat * 256 + handle.toNat * 16)
  ∧ (∀ a : SummaryA, a.fgov < 65536 → a.fcmd < 65536 →
    ∃ b1 b2 b3 b4 b5 b6 : Byte, a.data = [a.count, b1, b2, b3, b4, b5, b6, 0]
      ∧ b1.toNat % 8 = a.mode.code ∧ b1.toNat / 8 % 2 = 0 ∧ b1.toNat / 16 % 4 = a.stage.val
      ∧ b1.toNat / 64 % 2 = a.dutyWarn.toNat ∧ b1.toNat / 128 = a.fallback.toNat
      ∧ b2.toNat + 256 * b3.toNat = a.fgov ∧ b4.toNat + 256 * b5.toNat = a.fcmd
      ∧ (a.governing = none → b6 = 0xFF) ∧ ∀ i ∈ a.governing, b6.toNat = i.val)
  ∧ (∀ b : SummaryB, b.fret < 4096 → b.sumF < 4096 → b.listed ≤ 7 → b.hottest.figure < 1024 →
    -4096 ≤ b.balance → b.balance ≤ 4095 →
    ∃ b1 b2 b3 b4 b5 b6 b7 : Byte, b.data = [b.count, b1, b2, b3, b4, b5, b6, b7]
      ∧ b1.toNat + 256 * b2.toNat = b.fret + 4096 * b.hottest.band.code + 16384 * b.waiting.toNat
      ∧ b3.toNat + 256 * b4.toNat = b.sumF + 4096 * b.listed
      ∧ ((b5.toNat + 256 * b6.toNat + 65536 * b7.toNat : Nat) : Int)
          = b.balance % 8192 + 8192 * (b.hottest.figure : Int))

/-- The layout of a record report (R177), for a record that fits its class. -/
def Obligations.ReportLayout : Prop :=
  ∀ (r : Record) (t : Settings) (i : SlotId) (version : BitVec 8) (countdown : Nat), r.fits t → countdown ≤ 2550 →
    ∃ b2 b3 b4 b5 b6 b7 c2 c3 c4 c5 c6 c7 : Byte,
      r.reportPart1 i version = [byte i, version, b2, b3, b4, b5, b6, b7]
      ∧ r.reportPart2 i version countdown = [byte (128 + i), version, c2, c3, c4, c5, c6, c7]
      ∧ b2.toNat % 16 = r.owner.val ∧ b2.toNat / 16 % 8 = r.cls.code ∧ b2.toNat / 128 = r.shared.toNat
      ∧ b3.toNat % 8 = recStateCode (some r.state) ∧ b3.toNat / 8 % 4 = r.cover.code
      ∧ b3.toNat / 32 = axleMask r.exclusion
      ∧ b4.toNat + 256 * b5.toNat = r.force
      ∧ (r.limit = none → b6 = 0xFF ∧ b7 = 0xFF) ∧ (∀ l ∈ r.limit, b6.toNat + 256 * b7.toNat = l)
      ∧ c2.toNat % 8 = r.sources.mask ∧ c2.toNat / 8 % 2 = 0 ∧ c2.toNat / 128 = 0
      ∧ (r.inhibit = none → c2.toNat / 16 % 8 = 0) ∧ (∀ x ∈ r.inhibit, c2.toNat / 16 % 8 = x.mask)
      ∧ (r.cls.intervention = false → r.inhibit = none)
      ∧ c3.toNat = r.leasePeriod ∧ c4.toNat = r.nextLease.getD 0 ∧ c5.toNat = countdown / 10
      ∧ (r.onset = none → c6 = 0xFF ∧ c7 = 0xFF) ∧ ∀ o ∈ r.onset, c6.toNat + 256 * c7.toNat = o

/-- A frame sent on the vehicle link leaves the queue and the next becomes the head (R50). On the chassis link it is the filled
slot of the lowest identifier that is sent, or the frame that was on the link before that slot was filled; it is gone, and the
frame that waits behind it is offered (R124). Which of the two is free (log entry 6). -/
def Obligations.FramesSent : Prop :=
  (∀ (s : State) (f : VehicleFrame) (rest : List VehicleFrame), s.inReset = false → s.vehicleTx = f :: rest →
    exec .vehicleFrameSent s = .next { s with vehicleTx := rest })
  ∧ (∀ (s : State) (j : Fin 4), s.inReset = false → SlotLaw s → firstOffered s.chassisTx j →
    ∃ (k : Fin 4) (drawn : Nat), (k = j ∨ s.chassisTx.onAir = some k) ∧ s.chassisTx.slots[k].front ≠ none
      ∧ exec .chassisFrameSent s = .next { s with
          freeCount := drawn
          chassisTx :=
            { slots := s.chassisTx.slots.set k { front := s.chassisTx.slots[k].behind, begun := false, behind := none }
              onAir := none } })

/-- The placing of a SUMMARY pair: in the places of the older pair behind the head, else at the tail when two places are free,
else nowhere (R52). The frames of a pair carry the tag in force, the kinds Ch and Dh, node 0, handle 0 and the data of SUMMARY A
and SUMMARY B (R27, R173, R175). -/
def Obligations.SummaryPlacement : Prop :=
  (∀ (s : State) (a : SummaryA) (b : SummaryB), s.settings.protocolTag.toNat < 8192 →
    ∃ x y : VehicleFrame, s.handSummary a b = s.placeSummary x y
      ∧ x.id.toNat = s.settings.protocolTag.toNat * 65536 + 0xC000 ∧ x.data = a.data
      ∧ y.id.toNat = s.settings.protocolTag.toNat * 65536 + 0xD000 ∧ y.data = b.data)
  ∧ ∀ (s : State) (a b : VehicleFrame),
    (∀ (head : VehicleFrame) (front : List VehicleFrame) (x y : VehicleFrame) (back : List VehicleFrame),
      s.vehicleTx = head :: (front ++ x :: y :: back) → x.kind = 0xC → y.kind = 0xD → (∀ z ∈ front, z.kind ≠ 0xC) →
      s.placeSummary a b = { s with vehicleTx := head :: (front ++ a :: b :: back) })
    ∧ ((∀ (front : List VehicleFrame) (x y : VehicleFrame) (back : List VehicleFrame),
        s.vehicleTx.tail = front ++ x :: y :: back → ¬ (x.kind = 0xC ∧ y.kind = 0xD)) →
      s.placeSummary a b
        = { s with vehicleTx := if s.vehicleTx.length ≤ 14 then s.vehicleTx ++ [a, b] else s.vehicleTx })

/-- Handing over the set-point frames (R124, R180): one RET/EXH frame and one AXLE frame per configured axle, each waiting
behind a frame of its kind whose transmission has begun and replacing one whose transmission has not. Of the frames offered
only that of the lowest identifier may have begun since the link was last asked, and the frame on the link may have left it to
be offered again: both are free (log entry 6). That a frame offered again is not replaced is the model's inference (log entry
19). -/
def Obligations.SetPointFramesHanded : Prop :=
  ∀ s : State,
    let t := s.handSetPoints
    let count := s.app.passCount
    let half (x : Nat) : List Byte := [byte (x % 256), byte (x / 256)]
    let put (k : Fin 4) (f : ChassisFrame) : Prop :=
      t.chassisTx.slots[k].begun = true ∧ t.chassisTx.slots[k].behind = some f
          ∧ t.chassisTx.slots[k].front = s.chassisTx.slots[k].front
        ∨ t.chassisTx.slots[k].begun = false ∧ t.chassisTx.slots[k].front = some f
          ∧ t.chassisTx.slots[k].behind = s.chassisTx.slots[k].behind
    t = { s with chassisTx := t.chassisTx, freeCount := t.freeCount }
    ∧ (∀ k : Fin 4, t.chassisTx.slots[k].begun = s.chassisTx.slots[k].begun
        ∨ t.chassisTx.slots[k].begun = true ∧ t.chassisTx.onAir = some k ∧ firstOffered s.chassisTx k)
    ∧ (t.chassisTx.onAir = s.chassisTx.onAir ∨ t.chassisTx.onAir = none
      ∨ ∃ k : Fin 4, t.chassisTx.onAir = some k ∧ t.chassisTx.slots[k].begun = true ∧ firstOffered s.chassisTx k)
    ∧ (s.app.last.ret < 65536 →
        put 0 { id := 0x100, data := half s.app.last.ret ++ [byte s.app.last.stage, count] })
    ∧ ∀ j : AxleId,
        (s.settings.axleConfigured j = true → s.app.last.pressure[j] < 65536 →
          put j.succ { id := 0x101 + BitVec.ofNat 11 j, data := [byte j] ++ half s.app.last.pressure[j] ++ [count] })
        ∧ (s.settings.axleConfigured j = false →
          t.chassisTx.slots[j.succ].front = s.chassisTx.slots[j.succ].front
          ∧ t.chassisTx.slots[j.succ].behind = s.chassisTx.slots[j.succ].behind)

/-! ## Expiries -/

/-- A lease expiry makes a record in ACTIVE, HELD or WAITING STALE, starts its grace, clears the monitors that name the slot,
and takes its departure from the arbiter's structures; version, age and content stand (R9, R10, R17, R20, R59, R61). That the
event is taken whatever is left of the lease is the model's choice (log entry 3). -/
def Obligations.LeaseExpiryEffect : Prop :=
  ∀ (s : State) (i : SlotId) (r : Record),
    s.inReset = false → s.record i = some r → r.state ≠ .stale → ArbiterLaw s →
    exec (.leaseExpiry i) s = .next { s with
      demand :=
        { s.demand with
          slots := Vector.ofFn fun j =>
            if j = i then
              { record := some { r with state := .stale, cover := .unserved }, version := (s.slot i).version
                countdown := some (10 * s.settings.classRows[r.cls.row].grace.toNat), mark := false }
            else slotAfterDeparture s i j }
      monitors := monitorsWithout s.monitors [i]
      arbiter := arbiterWithout s i }

/-- The expiries of a grace (R12), a qualifier hold (R45), a status timer (R84) and the loss hold timer (R154). That each is
taken whenever its timer runs is the model's choice (log entry 3). -/
def Obligations.TimersExpire : Prop :=
  ∀ s : State, s.inReset = false →
    (∀ (i : SlotId) (r : Record), s.record i = some r → r.state = .stale →
      exec (.graceExpiry i) s = .next { s with
        demand :=
          { slots := s.demand.slots.set i { s.slot i with record := none, countdown := none, mark := false }
            age := s.demand.age.erase i }
        monitors := monitorsWithout s.monitors [i] })
    ∧ (∀ n : Node, s.latches[n].hold ≠ none →
      exec (.qualifierHoldExpiry n) s = .next { s with latches := s.latches.set n { quals := [], hold := none } })
    ∧ (s.health.retarder.timer ≠ none →
      exec (.statusTimerExpiry .retarder) s
        = .next { s with health := { s.health with retarder := { value := .fault, timer := none } } })
    ∧ (s.health.exhaust.timer ≠ none →
      exec (.statusTimerExpiry .exhaust) s
        = .next { s with health := { s.health with exhaust := { value := .fault, timer := none } } })
    ∧ (∀ j : AxleId, s.health.modulator[j].timer ≠ none →
      exec (.statusTimerExpiry (.modulator j)) s = .next { s with
        health := { s.health with modulator := s.health.modulator.set j { value := .fault, timer := none } } })
    ∧ (s.ctl.lossHold ≠ none → s.ctl.mode = .loss →
      exec .lossHoldExpiry s = .next { s with
        ctl := { s.ctl with mode := .failsafe, lossHold := none, sigma := 0, fallback := true } })

/-- What a sample timer expiry does in each mode it reaches: HOLD mode, LOSS with a reissue, a further reissue, or fallback
set-points with their summary pair (R81, R151 to R157). In every mode it leaves a pass in flight as it was, with every figure that
the pass will write, hand over and report (R81, R129). That it is taken whenever the timer runs is the model's choice (log
entry 3). -/
def Obligations.SampleTimerExpiryByMode : Prop :=
  (∀ (s : State) (p : Pass), s.pass = some p → ∃ t : State,
    exec .sampleTimerExpiry s = .next t ∧ t.pass = some p ∧ p.figures t.settings t.app = p.figures s.settings s.app)
  ∧ ∀ s : State, s.inReset = false → s.intake.timer ≠ none →
    let restarted : Intake := { s.intake with timer := some s.settings.sampleTimeout.toNat }
    let reissued : SetPoints :=
      { ret := if s.health.retarder.value = .fault then 0 else s.app.last.ret
        stage :=
          if s.health.exhaust.value = .fault then 0
          else if s.health.exhaust.value = .degraded ∧ s.app.last.stage = 2 then 1 else s.app.last.stage
        pressure := Vector.ofFn fun j =>
          if s.health.modulator[j].value = .fault then 0 else s.app.last.pressure[j] }
    (s.ctl.mode = .normal →
      exec .sampleTimerExpiry s = .next { s with
        intake := restarted, ctl := { s.ctl with mode := .hold, fallback := false } })
    ∧ (s.ctl.mode = .hold →
      exec .sampleTimerExpiry s = .next ({ s with
        intake := restarted
        ctl := { s.ctl with
          mode := .loss, recovery := 0, lossHold := some s.settings.lossHold.toNat, fallback := false }
        app := { s.app with last := reissued } }.handSetPoints))
    ∧ (s.ctl.mode = .loss →
      exec .sampleTimerExpiry s = .next ({ s with
        intake := restarted, ctl := { s.ctl with recovery := 0 }
        app := { s.app with last := reissued } }.handSetPoints))
    ∧ (s.ctl.mode = .failsafe → s.ctl.fallback = true →
      let g := governing s.demand.slots s.demand.age
      let acc := s.settings.releaseRate.toNat * s.settings.sampleTimeout.toNat + s.ctl.sigma
      let ret := if s.health.retarder.value = .fault then 0 else s.app.last.ret - acc / 1000
      let share (j : AxleId) : Nat :=
        if s.settings.axleConfigured j = true ∧ s.health.modulator[j].value ≠ .fault then
          fgovOf g * s.settings.split[j].toNat / 100
        else 0
      let pressure (j : AxleId) : Nat :=
        if share j = 0 then 0
        else
          min (((share j * 100 + s.settings.gain[j].toNat - 1) / s.settings.gain[j].toNat + 4) / 5 * 5)
            s.settings.pmax[j].toNat
      exec .sampleTimerExpiry s = .next ({ s with
        intake := restarted
        ctl := { s.ctl with recovery := 0, sigma := if ret = 0 then 0 else acc % 1000 }
        app := { s.app with last :=
          { ret := ret, stage := 0, pressure := Vector.ofFn pressure } } }.handSetPoints.handSummary
        { count := s.app.passCount, mode := .failsafe, stage := 0, dutyWarn := s.duty.warn, fallback := true
          fgov := fgovOf g, fcmd := s.app.fcmd, governing := g.map Prod.fst }
        { count := s.app.passCount, fret := ret, sumF := share 0 + share 1 + share 2, balance := 0
          hottest := s.hottest, listed := s.arbiter.listed.length, waiting := !s.arbiter.waiting.isEmpty }))

/-! ## Samples and health -/

/-- Sample frames in SETUP change nothing; elsewhere a frame A is stored as the pending A, a frame B without its A is
discarded, and one that completes a duplicate or a sample of invalid v consumes the pending A and does no more (R71 to R75). -/
def Obligations.SampleFramesStoredOrDropped : Prop :=
  ∀ (s : State) (ts v n ratio : Half) (oil ambient l0 l1 l2 : Byte), s.inReset = false →
    (s.ctl.mode = .setup →
      exec (.sampleFrameA ts v n ratio) s = .next s ∧ exec (.sampleFrameB ts oil ambient l0 l1 l2) s = .next s)
    ∧ (s.ctl.mode ≠ .setup →
      exec (.sampleFrameA ts v n ratio) s = .next { s with intake := { s.intake with
        pendingA := some { ts := ts, v := v, n := n, ratio := ratio } } })
    ∧ (s.ctl.mode ≠ .setup → (∀ a ∈ s.intake.pendingA, a.ts ≠ ts) →
      exec (.sampleFrameB ts oil ambient l0 l1 l2) s = .next s)
    ∧ (s.ctl.mode ≠ .setup → ∀ a ∈ s.intake.pendingA, a.ts = ts →
      s.intake.lastUsed = some ts ∨ 1500 < a.v.toNat →
      exec (.sampleFrameB ts oil ambient l0 l1 l2) s = .next { s with intake := { s.intake with pendingA := none } })

/-- A frame B that completes a valid sample restarts the sample timer and stores the last valid values; the sample, with its Δt
and its substitutes, starts a pass, or is held while a pass is in flight (R73, R74, R76 to R81, R106, R107). That the pass holds
its arbiter result and capability from its start is the model's choice (log entry 15). -/
def Obligations.SampleCompleted : Prop :=
  ∀ (s : State) (ts : Half) (oil ambient l0 l1 l2 : Byte) (a : FrameA),
    s.inReset = false → s.ctl.mode ≠ .setup → s.intake.pendingA = some a → a.ts = ts →
    s.intake.lastUsed ≠ some ts → a.v.toNat ≤ 1500 →
    let loads : Vector Byte 3 := #v[l0, l1, l2]
    let tamb : Int := if ambient.toNat ≤ 125 then (ambient.toNat : Int) - 40 else s.intake.lastAmbient
    let bad : Bool := decide (∃ j : AxleId, s.settings.axleConfigured j = true ∧ loads[j] = 0xFF)
    let x : Sample :=
      { ts := ts, v := a.v.toNat, n := a.n.toNat, ratio := a.ratio.toNat
        exhaustMark := decide (4000 < a.n.toNat ∨ 5000 < a.ratio.toNat)
        oil := if oil.toNat ≤ 250 then some ((oil.toNat : Int) - 40) else none
        ambient := tamb
        loads := Vector.ofFn fun j =>
          if bad = true ∧ s.settings.axleConfigured j = true then s.settings.nominalMass.toNat * s.settings.split[j].toNat / 100
          else loads[j].toNat
        dt := match s.intake.lastUsed with
          | none => 10
          | some u => min ((ts.toNat + 65536 - u.toNat) % 65536) 50 }
    let t : State := { s with intake := { s.intake with
      pendingA := none, timer := some s.settings.sampleTimeout.toNat, lastV := some a.v.toNat, lastAmbient := tamb } }
    (s.pass = none → exec (.sampleFrameB ts oil ambient l0 l1 l2) s = .next (passStarted t x))
    ∧ (s.pass ≠ none →
      exec (.sampleFrameB ts oil ambient l0 l1 l2) s = .next { t with intake := { t.intake with held := some x } })

/-- A health frame outside SETUP records OK, DEGRADED or FAULT for a source in use and restarts its status timer; any other
code or actuator, and every health frame in SETUP, is ignored (R71, R83, R84, R181). -/
def Obligations.HealthFrameRecorded : Prop :=
  ∀ (s : State) (actuator code : Byte) (v : Health), s.inReset = false →
    let e : HealthEntry := { value := v, timer := some s.settings.statusTimeout.toNat }
    let named : Prop := code = 0 ∧ v = .ok ∨ code = 1 ∧ v = .degraded ∨ code = 2 ∧ v = .fault
    (s.ctl.mode ≠ .setup → named → actuator = 0 →
      exec (.healthFrame actuator code) s = .next { s with health := { s.health with retarder := e } })
    ∧ (s.ctl.mode ≠ .setup → named → actuator = 1 →
      exec (.healthFrame actuator code) s = .next { s with health := { s.health with exhaust := e } })
    ∧ (∀ j : AxleId, s.ctl.mode ≠ .setup → named → actuator.toNat = 2 + j.val → s.settings.axleConfigured j = true →
      exec (.healthFrame actuator code) s
        = .next { s with health := { s.health with modulator := s.health.modulator.set j e } })
    ∧ (s.ctl.mode = .setup ∨ 2 < code.toNat ∨ 4 < actuator.toNat
        ∨ (∃ j : AxleId, actuator.toNat = 2 + j.val ∧ s.settings.axleConfigured j = false) →
      exec (.healthFrame actuator code) s = .next s)

/-! ## The pass -/

/-- The end of a pass: the apportioner's state takes the figures of the pass and the next count, the set-point frames and the
summary pair are handed over, then cover, accounts and duty timer take their updates and the held sample starts the next
pass (R23, R80, R109, R123 to R126, R131, R140, R156). What a pass started in FAILSAFE is, is the model's inference (log entry
15). -/
def Obligations.PassEndEffect : Prop :=
  ∀ (s : State) (p : Pass), s.inReset = false → s.pass = some p →
    let f := p.figures s.settings s.app
    let count := s.app.passCount + 1
    let total := f.shares[0] + f.shares[1] + f.shares[2]
    let delivered := f.fcmd - f.shortfall + f.overshoot
    let issued := ({ s with
      app :=
        { fcmd := f.fcmd, rho := f.rho, dir := f.dir
          last := { ret := f.fret, stage := f.stage, pressure := f.pressure }, passCount := count }
      ctl := { s.ctl with sigma := if p.fromFailsafe = true then 0 else s.ctl.sigma } } : State).handSetPoints.handSummary
        { count := count, mode := s.ctl.mode, stage := f.stage, dutyWarn := s.duty.warn, fallback := s.ctl.fallback
          fgov := p.arb.fgov, fcmd := f.fcmd, governing := p.arb.governing }
        { count := count, fret := f.fret, sumF := total
          balance := if 0 < f.shortfall then f.shortfall else -(f.overshoot : Int)
          hottest := p.hottest, listed := p.listed.length, waiting := !p.waiting.isEmpty }
    let ended : State := { issued with
      demand := { s.demand with slots := Vector.ofFn fun i =>
        { s.slot i with
          mark := false
          record :=
            if (s.slot i).mark = true then
              match p.slots[i].record with
              | some q => (s.record i).map fun r => { r with cover := coverEarned q delivered }
              | none => s.record i
            else s.record i } }
      accounts := Vector.ofFn fun j =>
        if s.settings.axleConfigured j = true then
          s.accounts[j].map fun a =>
            a.update (36000 * s.settings.cth[j].toNat) (1000 * s.settings.tau[j].toNat) f.shares[j] p.sample.v
              p.sample.dt p.sample.ambient
        else s.accounts[j]
      duty := s.duty.update (decide (f.fret = p.cap.cret ∧ 0 < p.cap.cret ∧ 0 < total)) p.sample.dt
        s.settings.dutyThreshold.toNat
      pass := none }
    exec .passEnd s = .next (match s.intake.held with
      | none => ended
      | some x => passStarted { ended with intake := { ended.intake with held := none } } x)

/-- The balance of every pass: what the brakes are given and what no axle took make up the commanded total and the overshoot;
the two are never both non-zero, and the overshoot keeps within the hysteresis (R121). -/
def Obligations.PassBalance : Prop :=
  ∀ (p : Pass) (t : Settings) (x : Apportioner),
    let f := p.figures t x
    let total := f.shares[0] + f.shares[1] + f.shares[2]
    let remainder := f.fcmd - f.fexh - f.fret
    f.fexh + f.fret + total + f.shortfall = f.fcmd + f.overshoot
    ∧ (f.shortfall = 0 ∨ f.overshoot = 0)
    ∧ f.overshoot ≤ t.hysteresis.toNat
    ∧ total = remainder - f.shortfall
    ∧ (remainder = 0 → f.shortfall = 0)
    ∧ (0 < f.shortfall → f.fexh < f.fcmd)
    ∧ ((∀ j : AxleId, p.candidates[j] = false) → f.shortfall = remainder)
    ∧ (f.fcmd < f.fexh → f.overshoot = f.fexh - f.fcmd ∧ f.fret = 0 ∧ total = 0 ∧ f.shortfall = 0)
    ∧ (f.fexh ≤ f.fcmd → f.overshoot = 0 ∧ f.fret + remainder = f.fcmd - f.fexh ∧ total + f.shortfall = remainder)
    ∧ f.delivered = f.fcmd - f.shortfall + f.overshoot
    ∧ f.fcmd = (p.total t x).fcmd

/-- No brake is asked for more than its capability, and a brake that is withheld is asked for nothing (R99, R116, R118, R120).
The stage is the highest available one that fits the total, or the current one while it is available, within the hysteresis
and the total above 0 (R114, R115), and the retarder takes what the stage leaves, up to its capability (R116). The axles take
the remainder in sharing rounds by the weights L_j × f_j, three at most: a share above its Csvc_j is set to it and the pool is
shared again among the others, and what is left is the shortfall (R117 to R121). That a weight at a substitute load above 254
is not clamped is the model's choice (log entry 18). -/
def Obligations.SharesWithinCapability : Prop :=
  ∀ (p : Pass) (t : Settings) (x : Apportioner),
    let f := p.figures t x
    (∃ up : Fin 3, (∃ a ∈ stageAt p.cap up, a ≤ f.fcmd) ∧ (∀ higher > up, ∀ a ∈ stageAt p.cap higher, f.fcmd < a)
      ∧ f.stage =
        if p.cap.exhaust = false then 0
        else if p.currentStage ≤ up then up
        else if (∃ a ∈ stageAt p.cap p.currentStage, a ≤ f.fcmd + t.hysteresis.toNat) ∧ 0 < f.fcmd then p.currentStage
        else up)
    ∧ f.fexh = (stageAt p.cap f.stage).getD 0
    ∧ f.fret = min (f.fcmd - f.fexh) p.cap.cret
    ∧ f.fret ≤ p.cap.cret
    ∧ (∀ j : AxleId, f.shares[j] ≤ p.cap.csvc[j])
    ∧ (let w : Vector Nat 3 := Vector.ofFn fun j => p.sample.loads[j] * p.cap.fade[j]
      let candidates : AxleSet := Vector.ofFn fun j => p.arb.axles[j] && p.cap.candidate[j]
      let remainder := f.fcmd - f.fexh - f.fret
      let round := Board.next w p.cap.csvc
      let last := round (round (round (firstBoard candidates remainder)))
      f.shares = last.shares ∧ f.shortfall = last.amount
      ∧ (0 < remainder → 0 < sumOver candidates (fun j => w[j]) →
          (∀ j : AxleId, (roundShares w candidates remainder)[j] ≤ p.cap.csvc[j]) →
          f.shares = roundShares w candidates remainder ∧ f.shortfall = 0)
      ∧ (0 < f.shortfall → ∀ j : AxleId, candidates[j] = true → 0 < w[j] → f.shares[j] = p.cap.csvc[j]))
    ∧ (∀ j : AxleId, p.arb.axles[j] = false ∨ p.cap.candidate[j] = false → f.shares[j] = 0 ∧ f.pressure[j] = 0)
    ∧ (∀ fade : Vector Nat 3, p.cap = capability t p.sample p.health p.arb.sources fade →
        (p.sample.ratio = 0 ∨ p.sample.exhaustMark = true ∨ p.arb.sources.exh = false ∨ p.health.exhaust = .fault →
          f.stage = 0 ∧ f.fexh = 0)
        ∧ (p.health.exhaust = .degraded → f.stage ≠ 2)
        ∧ (p.arb.sources.ret = false ∨ p.health.retarder = .fault → f.fret = 0)
        ∧ ∀ j : AxleId, p.arb.sources.svc = false ∨ p.health.modulator[j] = .fault → f.shares[j] = 0)

/-- A sharing round (R119): with weights that sum to more than 0 it places the whole amount, each candidate taking the floor of
its exact share or one unit more, the units going to the largest rounding remainders and among equals to the lower axle. -/
def Obligations.SharingRound : Prop :=
  ∀ (w : Vector Nat 3) (a : AxleSet) (q : Nat),
    let x := weightsIn w a
    let total := x[0] + x[1] + x[2]
    let got := roundShares w a q
    (0 < total →
      got[0] + got[1] + got[2] = q
      ∧ q - (q * x[0] / total + q * x[1] / total + q * x[2] / total) < a[0].toNat + a[1].toNat + a[2].toNat
      ∧ (∀ j : AxleId, a[j] = false ∨ w[j] = 0 → got[j] = 0)
      ∧ (∀ j : AxleId, got[j] = q * x[j] / total ∨ a[j] = true ∧ got[j] = q * x[j] / total + 1)
      ∧ ∀ j k : AxleId, a[k] = true → got[j] = q * x[j] / total + 1 → got[k] = q * x[k] / total →
          q * x[k] % total < q * x[j] % total ∨ (q * x[k] % total = q * x[j] % total ∧ j < k))
    ∧ (total = 0 → ∀ (csvc shares : Vector Nat 3) (fuel : Nat),
        sharingRounds w csvc (fuel + 1) a q shares = { shares := shares, unplaced := q })

/-- After every pass the commanded total is at most 2500 and no greater than the limit of any STABILITY record ACTIVE in the
snapshot; the total and the residue are those of the ramp, but a cap below the ramped total is the total and drops the residue;
the direction stored is that of the comparison with the target (R110 to R113). -/
def Obligations.CappedTotal : Prop :=
  (∀ (s : State) (x : Sample), s.app.fcmd ≤ 2500 →
    let f := (s.newPass x).figures s.settings s.app
    f.fcmd ≤ 2500
    ∧ ∀ i ∈ s.demand.age, ∀ r ∈ s.record i, r.state = .active → r.cls = .stability → ∀ l ∈ r.limit, f.fcmd ≤ l)
  ∧ ∀ (p : Pass) (t : Settings) (x : Apportioner),
    let f := p.figures t x
    let goal := min p.arb.fgov 2500
    let y := ramp x.dir p.arb.onset t.releaseRate.toNat p.sample.dt goal x.fcmd x.rho
    (∀ c ∈ p.arb.cap, c < y.fcmd → f.fcmd = c ∧ f.rho = 0)
    ∧ ((∀ c ∈ p.arb.cap, y.fcmd ≤ c) → f.fcmd = y.fcmd ∧ f.rho = y.rho)
    ∧ f.dir = if x.fcmd < goal then .up else if goal < x.fcmd then .down else .level

/-- The ramp delivers the whole of rate × Δt, the fraction carried in the residue, until it reaches the target; a change of
direction drops the residue; an unlimited onset reaches the target at once; a LEVEL pass leaves the total (R111, R112). -/
def Obligations.RampIsExact : Prop :=
  ∀ (prev : RampDir) (rate release dt t fcmd rho : Nat),
    let carried (d : RampDir) : Nat := if prev = d then rho else 0
    (fcmd < t → 0 < rate →
      let y := ramp prev (some rate) release dt t fcmd rho
      y.fcmd ≤ t ∧ (y.fcmd = t → y.rho = 0) ∧ y.rho < 1000
      ∧ (y.fcmd < t → 1000 * y.fcmd + y.rho = 1000 * fcmd + carried .up + rate * dt)
      ∧ (1000 * fcmd + carried .up + rate * dt < 1000 * t → y.fcmd < t))
    ∧ (fcmd < t → ramp prev (some 0) release dt t fcmd rho = { fcmd := t, rho := 0 })
    ∧ (t < fcmd → ∀ onset : Option Nat,
      let y := ramp prev onset release dt t fcmd rho
      t ≤ y.fcmd ∧ (y.fcmd = t → y.rho = 0) ∧ y.rho < 1000
      ∧ (t < y.fcmd → 1000 * y.fcmd + release * dt + carried .down = 1000 * fcmd + y.rho)
      ∧ (1000 * t + release * dt + carried .down < 1000 * fcmd → t < y.fcmd))
    ∧ (t = fcmd → ∀ onset : Option Nat, ramp prev onset release dt t fcmd rho = { fcmd := fcmd, rho := 0 })

/-- A pressure set-point is a multiple of 5 no greater than Pmax, gives at least its share at the fade the pass assumed, and a
share within the brake limit needs no lowering to Pmax (R104, R122). The pressure a pass sets for a configured axle is that of
its share at the fade factor the pass read (R122). -/
def Obligations.PressureOfShare : Prop :=
  (∀ (p : Pass) (t : Settings) (x : Apportioner) (j : AxleId), j.val < t.axleCount.toNat →
    (p.figures t x).pressure[j] = pressureOf t j p.cap.fade[j] (p.figures t x).shares[j])
  ∧ ∀ (t : Settings) (j : AxleId) (f share : Nat),
    0 < f → 0 < t.gain[j].toNat → t.pmax[j].toNat % 5 = 0 →
    let p := pressureOf t j f share
    p % 5 = 0 ∧ p ≤ t.pmax[j].toNat ∧ (share = 0 → p = 0)
    ∧ (0 < share → share ≤ brakeLimit t j f →
      share * 25600 ≤ p * (t.gain[j].toNat * f)
      ∧ ∀ q : Nat, q % 5 = 0 → share * 25600 ≤ q * (t.gain[j].toNat * f) → p ≤ q)

/-- What every lookup gives (R93): it lies between two points of its table, on a segment between the two points of the segment;
the order of two tables is the order of their lookups; beyond the ends it is constant; after RUN the two exhaust tables are in
order. -/
def Obligations.LookupLaws : Prop :=
  ∀ (a b : Vector Half 17) (o p x : Nat), 0 < p →
    (∃ j k : Fin 17, (∀ i : Fin 17, a[j].toNat ≤ a[i].toNat ∧ a[i].toNat ≤ a[k].toNat)
      ∧ a[j].toNat ≤ lookup a o p x ∧ lookup a o p x ≤ a[k].toNat)
    ∧ (∀ k : Fin 16, o < x → (x - o) / p = k.val →
        min a[k.castSucc].toNat a[k.succ].toNat ≤ lookup a o p x
        ∧ lookup a o p x ≤ max a[k.castSucc].toNat a[k.succ].toNat)
    ∧ ((∀ k : Fin 17, b[k].toNat ≤ a[k].toNat) → lookup b o p x ≤ lookup a o p x)
    ∧ (x ≤ o → lookup a o p x = a[0].toNat)
    ∧ (o + 16 * p ≤ x → lookup a o p x = a[16].toNat)
    ∧ ∀ t : Settings, inconsistency t = none → lookup t.stage1Points o p x ≤ lookup t.stage2Points o p x

/-- The figures of a capability: lookup within a segment (R92), Cret (R97), the stage forces and the available stages (R98 to
R100), Csvc_j and the candidates (R102 to R105); and the ranges and corner cases of what they are made of (R96, R97, R102,
R104, R135). The fade factor a pass reads of a configured axle is that of the whole degrees of the axle's own account (R94,
R135). That a substitute load above 254 is not held to the bound of R102 and R104 is the model's choice (log entry 18). -/
def Obligations.CapabilityRanges : Prop :=
  (∀ (s : State) (j : AxleId) (a : Account) (tw : Int), j.val < s.settings.axleCount.toNat → s.accounts[j] = some a →
    16 * tw ≤ a.t16 → a.t16 < 16 * tw + 16 → s.fadeFactors[j] = fadeFactor s.settings tw)
  ∧ ∀ (t : Settings) (x : Sample) (j : AxleId),
    (t.tder.toInt < t.tcut.toInt →
      derating t x.oil ≤ 256
      ∧ (x.oil = none → derating t x.oil = 128)
      ∧ ∀ c ∈ x.oil, (c ≤ t.tder.toInt → derating t x.oil = 256) ∧ (t.tcut.toInt ≤ c → derating t x.oil = 0)
        ∧ (t.tder.toInt < c → c < t.tcut.toInt →
          (derating t x.oil : Int) = (256 * (t.tcut.toInt - c)) / (t.tcut.toInt - t.tder.toInt)))
    ∧ (t.ts.toInt < t.te.toInt → t.fadeFloor.toNat ≤ 256 → ∀ tw : Int,
      t.fadeFloor.toNat ≤ fadeFactor t tw ∧ fadeFactor t tw ≤ 256
      ∧ (tw < t.ts.toInt → fadeFactor t tw = 256) ∧ (t.te.toInt ≤ tw → fadeFactor t tw = t.fadeFloor.toNat)
      ∧ (t.ts.toInt ≤ tw → tw < t.te.toInt →
        (fadeFactor t tw : Int)
          = 256 - ((256 - (t.fadeFloor.toNat : Int)) * (tw - t.ts.toInt)) / (t.te.toInt - t.ts.toInt)))
    ∧ (∀ load : Nat, load ≤ 254 → t.mu.toNat ≤ 100 → ∀ (f : Nat) (h : Health) (allowed : Bool),
      axleCapability t j load f h allowed ≤ 2491
      ∧ axleCapability t j load f h allowed ≤ brakeLimit t j f
      ∧ (load = 0 ∨ h = .fault ∨ allowed = false ∨ t.axleConfigured j = false →
          axleCapability t j load f h allowed = 0))
    ∧ ((∀ k : Fin 17, t.retPoints[k].toNat ≤ 2500) → t.tder.toInt < t.tcut.toInt → ∀ (h : Health) (allowed : Bool),
      retarderCapability t x h allowed ≤ 2500)
    ∧ (∀ (points : Vector Half 17) (o p n : Nat) (k : Fin 16), 0 < p → o < n → (n - o) / p = k.val →
      let a : Int := points[k.castSucc].toNat
      let b : Int := points[k.succ].toNat
      let r : Int := n - o - k.val * p
      (lookup points o p n : Int) = a + (2 * (b - a) * r + p) / (2 * p))
    ∧ ∀ (h : HealthValues) (src : SourceSet) (fade : Vector Nat 3),
      let c := capability t x h src fade
      let force (points : Vector Half 17) : Nat :=
        lookup points t.exhOrigin.toNat (160 + 80 * t.exhPitch.toNat) x.n * x.ratio / t.rDyn.toNat
      c.cret =
          (if src.ret = true then
            underHealth h.retarder (lookup t.retPoints 0 (40 + 20 * t.retPitch.toNat) x.v * derating t x.oil / 256)
          else 0)
      ∧ (c.exhaust = true ↔ x.exhaustMark = false ∧ x.ratio ≠ 0 ∧ h.exhaust ≠ .fault ∧ src.exh = true)
      ∧ c.stage1 = (if c.exhaust = true ∧ 0 < force t.stage1Points then some (force t.stage1Points) else none)
      ∧ c.stage2 =
          (if c.exhaust = true ∧ h.exhaust = .ok ∧ 0 < force t.stage2Points then some (force t.stage2Points) else none)
      ∧ c.csvc[j] =
          (if j.val < t.axleCount.toNat ∧ src.svc = true then
            underHealth h.modulator[j]
              (min (t.pmax[j].toNat * t.gain[j].toNat * fade[j] / 25600) (981 * x.loads[j] * t.mu.toNat / 10000))
          else 0)
      ∧ (c.candidate[j] = true ↔ j.val < t.axleCount.toNat ∧ h.modulator[j] ≠ .fault)
      ∧ c.fade = fade

/-- An update of a thermal account delivers exactly the heat and the cooling it is given, the fractions carried in the residues,
and clamps the temperature (R132, R133, R134). The hottest axle is the configured one of the highest account, reported by its
whole degrees plus 40 and its band (R125, R136). -/
def Obligations.ThermalUpdateIsExact : Prop :=
  (∀ (a : Account) (dh dc share v dt : Nat) (ambient : Int), 0 < dh → 0 < dc →
    let b := a.update dh dc share v dt ambient
    let acc := a.coolRes + (a.t16 - 16 * ambient) * dt
    ∃ (heat : Nat) (cool : Int),
      dh * heat + b.heatRes = a.heatRes + share * v * dt * 16 ∧ b.heatRes < dh
      ∧ dc * cool + b.coolRes = acc ∧ -(dc : Int) < b.coolRes ∧ b.coolRes < dc
      ∧ (0 ≤ acc → 0 ≤ b.coolRes) ∧ (acc ≤ 0 → b.coolRes ≤ 0)
      ∧ b.t16 = max (-640) (min (a.t16 + heat - cool) 14400))
  ∧ ∀ (s : State) (j : AxleId) (a : Account) (tw : Int),
    (∀ k : AxleId, k.val < s.settings.axleCount.toNat → s.accounts[k] ≠ none) →
    j.val < s.settings.axleCount.toNat → s.accounts[j] = some a →
    (∀ k : AxleId, ∀ b ∈ s.accounts[k], k.val < s.settings.axleCount.toNat → b.t16 ≤ a.t16) →
    16 * tw ≤ a.t16 → a.t16 < 16 * tw + 16 →
    s.hottest =
      { figure := (tw + 40).toNat
        band :=
          if tw < s.settings.ts.toInt then .cool else if tw < s.settings.te.toInt then .warm else .hot }

/-- The governing record is an ACTIVE demand-class record of the largest force, among those of the lowest class code, and among
those the earliest in the age order; there is none exactly when no record is a candidate (R64). The rest of the arbiter result:
Fcap is the smallest limit of an ACTIVE STABILITY record (R65), the inhibit set the union over the listed records (R66), and the
sources, the axles and the onset rate are those of the governing record (R67, R68, R69). -/
def Obligations.GoverningRecord : Prop :=
  ∀ (slots : Vector Slot 24) (age : List SlotId),
    let candidate (j : SlotId) (q : Record) : Prop :=
      j ∈ age ∧ slots[j].record = some q ∧ q.state = .active ∧ q.cls ≠ .stability
    (∀ (i : SlotId) (r : Record), governing slots age = some (i, r) →
      candidate i r ∧ fgovOf (governing slots age) = r.force
      ∧ ∀ (j : SlotId) (q : Record), candidate j q →
        q.force < r.force
        ∨ q.force = r.force ∧ r.cls.code < q.cls.code
        ∨ q.force = r.force ∧ r.cls = q.cls ∧ age.idxOf i ≤ age.idxOf j)
    ∧ (governing slots age = none → fgovOf (governing slots age) = 0 ∧ ∀ (j : SlotId) (q : Record), ¬ candidate j q)
    ∧ ∀ (t : Settings) (listed : List SlotId),
      let a := arbitrate t slots age listed
      let capping (l : Nat) : Prop := ∃ i ∈ age, ∃ r : Record,
        slots[i].record = some r ∧ r.state = .active ∧ r.cls = .stability ∧ r.limit = some l
      let withheld (has : SourceSet → Bool) : Prop := ∃ i ∈ listed, ∃ r : Record, ∃ x : SourceSet,
        slots[i].record = some r ∧ r.inhibit = some x ∧ has x = true
      (∀ c : Nat, a.cap = some c ↔ capping c ∧ ∀ l : Nat, capping l → c ≤ l)
      ∧ (a.cap = none ↔ ∀ l : Nat, ¬ capping l)
      ∧ (a.inhibit.ret = true ↔ withheld SourceSet.ret) ∧ (a.inhibit.exh = true ↔ withheld SourceSet.exh)
      ∧ (a.inhibit.svc = true ↔ withheld SourceSet.svc)
      ∧ (∀ (i : SlotId) (r : Record), governing slots age = some (i, r) →
        a.fgov = r.force ∧ a.governing = some i
        ∧ a.sources.ret = (r.sources.ret && !a.inhibit.ret) ∧ a.sources.exh = (r.sources.exh && !a.inhibit.exh)
        ∧ a.sources.svc = (r.sources.svc && !a.inhibit.svc)
        ∧ (∀ j : AxleId, a.axles[j] = true ↔ j.val < t.axleCount.toNat ∧ r.exclusion[j] = false)
        ∧ (∀ o ∈ r.onset, a.onset = some o)
        ∧ (r.onset = none → a.onset =
          match r.cls with
          | .stability => none
          | .collision => some t.onsets[0].toNat
          | .driver => some t.onsets[1].toNat
          | .hold => some t.onsets[2].toNat
          | .descent => some t.onsets[3].toNat
          | .stalk => some t.onsets[4].toNat))
      ∧ (governing slots age = none →
        a.fgov = 0 ∧ a.governing = none ∧ a.onset = none
        ∧ a.sources.ret = !a.inhibit.ret ∧ a.sources.exh = !a.inhibit.exh ∧ a.sources.svc = !a.inhibit.svc
        ∧ ∀ j : AxleId, a.axles[j] = true ↔ j.val < t.axleCount.toNat)

/-- The duty timer by its run state and the condition (R141), and DUTY_WARN after it (R142). -/
def Obligations.DutyTimerUpdate : Prop :=
  ∀ (d : DutyTimer) (cond : Bool) (dt threshold : Nat),
    let e := d.update cond dt threshold
    (d.running = false → cond = true → e.running = true ∧ e.count = 0)
    ∧ (d.running = true → cond = true →
      e.running = true ∧ (d.count + dt ≤ 6553500 → e.count = d.count + dt) ∧ (6553500 < d.count + dt → e.count = 6553500))
    ∧ (d.running = true → cond = false → e.running = false ∧ e.count = d.count)
    ∧ (d.running = false → cond = false → e.running = false ∧ e.count = d.count)
    ∧ (e.warn = true ↔ e.running = true ∧ 100 * threshold ≤ e.count)

/-! ## The setting port -/

/-- SELECT sets the pointer to an index of the map or to none; READ answers the value at the selected index and leaves the
pointer at none (R159 to R162). The live values are those of R170, with the codes and numbers of R183 and R184. -/
def Obligations.SelectAndRead : Prop :=
  ∀ (s : State) (x : Half), s.inReset = false →
    (∀ i : PortIndex, i.code = x.toNat →
      exec (.select x) s
        = .next (replied { s with port := { s.port with pointer := some i } } (transferBytes 1 x) .ok x))
    ∧ ((∀ i : PortIndex, i.code ≠ x.toNat) →
      exec (.select x) s = .next (replied (unselected s) (transferBytes 1 x) .badIndex 0))
    ∧ (s.port.pointer = none → exec (.read x) s = .next (replied s (transferBytes 2 x) .noSelect 0))
    ∧ (∀ i : SettingIndex, s.port.pointer = some (.setting i) →
      exec (.read x) s = .next (replied (unselected s) (transferBytes 2 x) .ok (s.settings.get i)))
    ∧ (∀ l : LiveIndex, s.port.pointer = some (.live l) →
      exec (.read x) s = .next (replied (unselected s) (transferBytes 2 x) .ok (s.liveValue l)))
    ∧ s.liveValue .mode =
        (match s.ctl.mode with
        | .setup => 0 | .startup => 1 | .normal => 2 | .hold => 3 | .loss => 4 | .failsafe => 5)
    ∧ s.liveValue .resetCause = (match s.ctl.cause with | .powerOn => 0 | .line => 1 | .supplyDip => 2)
    ∧ s.liveValue .settingsValid = (if s.ctl.settingsValid = true then 1 else 0)
    ∧ (s.liveValue .slotsInUse).toNat = ((List.finRange 24).filter fun i => (s.record i).isSome).length
    ∧ (s.arbiter.listed.length < 65536 → (s.liveValue .interventionCount).toNat = s.arbiter.listed.length)
    ∧ (s.arbiter.waiting.length < 65536 → (s.liveValue .waitingCount).toNat = s.arbiter.waiting.length)
    ∧ (∀ j : AxleId, s.accounts[j] = none → s.liveValue (.temperature j) = 0x8000)
    ∧ (∀ j : AxleId, ∀ a ∈ s.accounts[j], -640 ≤ a.t16 → a.t16 ≤ 14400 →
        (s.liveValue (.temperature j)).toInt = a.t16)
    ∧ (s.duty.count ≤ 6553500 → (s.liveValue .dutyCount).toNat = s.duty.count / 100)
    ∧ (s.liveValue .dutyBits).getLsbD 0 = s.duty.running ∧ (s.liveValue .dutyBits).getLsbD 1 = s.duty.warn
    ∧ (s.liveValue .dutyBits).toNat < 4
    ∧ (s.liveValue .passCount).toNat = s.app.passCount.toNat
    ∧ (s.app.fcmd ≤ 2500 → (s.liveValue .fcmd).toNat = s.app.fcmd)

/-- WRITE by the tests of R163 in their order: in SETUP a value in range is stored at the selected setting; every other WRITE
stores nothing; the pointer ends at none (R163). The ranges are those of R53, R164, R165 and R184. -/
def Obligations.WriteOutcome : Prop :=
  ∀ (s : State) (x : Half), s.inReset = false →
    (s.port.pointer = none → exec (.write x) s = .next (replied s (transferBytes 3 x) .noSelect 0))
    ∧ (∀ l : LiveIndex, s.port.pointer = some (.live l) →
      exec (.write x) s = .next (replied (unselected s) (transferBytes 3 x) .readOnly (s.liveValue l)))
    ∧ (∀ i : SettingIndex, s.port.pointer = some (.setting i) →
      (s.ctl.mode ≠ .setup →
        exec (.write x) s = .next (replied (unselected s) (transferBytes 3 x) .notSetup (s.settings.get i)))
      ∧ (s.ctl.mode = .setup → i.inRange x = false →
        exec (.write x) s = .next (replied (unselected s) (transferBytes 3 x) .range (s.settings.get i)))
      ∧ (s.ctl.mode = .setup → i.inRange x = true →
        exec (.write x) s = .next (replied { unselected s with settings := s.settings.set i x }
          (transferBytes 3 x) .ok x)))
    ∧ ∀ i : SettingIndex, ∀ r ∈ settingRows s.settings, r.index = i.code → (i.inRange x = true ↔ r.admits x)

/-- The index map names every setting and live value once, by the numbers of its table, and each setting's number reads that
setting's field (R162, R183); a setting stored is the setting read back and no other changes (R163, R184); the four bytes of
each transfer of R160 and R182 are read as its operation. -/
def Obligations.IndexMapAndTransfers : Prop :=
  (∀ i : PortIndex, PortIndex.ofCode i.code = some i)
  ∧ (∀ (t : Settings) (i : SettingIndex), ∃ r ∈ settingRows t, r.index = i.code ∧ r.field = t.get i)
  ∧ (∀ t : Settings, ∀ r ∈ settingRows t, ∃ i : SettingIndex, r.index = i.code ∧ r.field = t.get i)
  ∧ (∀ (n : Nat) (l : LiveIndex), (n, l) ∈ liveRows ↔ n = l.code)
  ∧ (∀ i j : PortIndex, i.code = j.code → i = j)
  ∧ (∀ (t : Settings) (i j : SettingIndex) (x : Half),
    (t.set i x).get i = x ∧ (j ≠ i → (t.set i x).get j = t.get j))
  ∧ ∀ (d : Half) (more : List Byte),
    decodeTransfer (transferBytes 1 d ++ more) = .ok (.select d)
    ∧ decodeTransfer (transferBytes 2 d ++ more) = .ok (.read d)
    ∧ decodeTransfer (transferBytes 3 d ++ more) = .ok (.write d)
    ∧ decodeTransfer (transferBytes 4 1 ++ more) = .ok .run
    ∧ decodeTransfer (transferBytes 4 2 ++ more) = .ok .setup
    ∧ (d ≠ 1 → d ≠ 2 → decodeTransfer (transferBytes 4 d ++ more) = .ok (.unknownCommand d))

/-- The consistency checks of RUN (R167): the image passes exactly when every check holds, and each check that fails after those
before it have passed is reported by its group and item. -/
def Obligations.RunChecks : Prop :=
  ∀ t : Settings,
    let axles := t.axleCount = 2 ∨ t.axleCount = 3
    let split := t.split[0].toNat + t.split[1].toNat + (if t.axleCount = 3 then t.split[2].toNat else 0) = 100
    let retarder := t.tder.toInt < t.tcut.toInt
    let fade := t.ts.toInt < t.te.toInt
    let exhaust (k : Fin 17) := t.stage1Points[k].toNat ≤ t.stage2Points[k].toNat
    let node (m : Node) := t.classRights[m].toNat < 64
    (inconsistency t = none
      ↔ axles ∧ split ∧ retarder ∧ fade ∧ (∀ k : Fin 17, exhaust k) ∧ ∀ m : Node, node m)
    ∧ (¬ axles → inconsistency t = some (1, 0))
    ∧ (axles → ¬ split → inconsistency t = some (2, 0))
    ∧ (axles → split → ¬ retarder → inconsistency t = some (3, 0))
    ∧ (axles → split → retarder → ¬ fade → inconsistency t = some (4, 0))
    ∧ (∀ k : Fin 17, axles → split → retarder → fade → ¬ exhaust k → (∀ l < k, exhaust l) →
      inconsistency t = some (5, k.val))
    ∧ (∀ m : Node, axles → split → retarder → fade → (∀ k : Fin 17, exhaust k) → ¬ node m → (∀ l < m, node l) →
      inconsistency t = some (6, m.val))

/-- RUN: refused NOT_SETUP outside SETUP, INCONSISTENT when a check fails, and otherwise STARTUP is entered and the blocks take
their RUN values (R82, R87, R108, R137, R143, R148, R166, R167, R168). -/
def Obligations.RunOutcome : Prop :=
  ∀ s : State, s.inReset = false →
    (s.ctl.mode ≠ .setup →
      exec .run s = .next (replied s (transferBytes 4 1) .notSetup (BitVec.ofNat 16 s.ctl.mode.code)))
    ∧ (∀ group item : Nat, s.ctl.mode = .setup → inconsistency s.settings = some (group, item) →
      exec .run s = .next (replied s (transferBytes 4 1) .inconsistent (BitVec.ofNat 16 (256 * group + item))))
    ∧ (s.ctl.mode = .setup → inconsistency s.settings = none →
      exec .run s = .next (replied { s with
        intake :=
          { pendingA := none, held := none, lastUsed := none, lastV := none, lastAmbient := s.intake.lastAmbient
            timer := none }
        health :=
          { retarder := { value := .fault, timer := none }, exhaust := { value := .fault, timer := none }
            modulator := Vector.replicate 3 { value := .fault, timer := none } }
        app :=
          { fcmd := 0, rho := 0, dir := .level
            last := { ret := 0, stage := 0, pressure := Vector.replicate 3 0 }, passCount := 0 }
        accounts := Vector.ofFn fun j =>
          if s.settings.axleConfigured j = true then
            some { t16 := 16 * s.settings.initialTemp.toInt, heatRes := 0, coolRes := 0 }
          else none
        duty := { running := false, count := 0, warn := false }
        ctl := { s.ctl with
          mode := .startup, settingsValid := true, recovery := 0, lossHold := none, sigma := 0, fallback := true } }
        (transferBytes 4 1) .ok 1))

/-- SETUP: refused RECORDS_HELD while any slot is non-FREE, then IN_MOTION at a last valid v of 5 or more; accepted in SETUP it
leaves everything, elsewhere it enters SETUP and the blocks take their entry to SETUP (R44, R82, R87, R108, R124, R128, R143,
R150, R166, R169). -/
def Obligations.SetupOutcome : Prop :=
  ∀ s : State, s.inReset = false →
    let inUse := ((List.finRange 24).filter fun i => (s.record i).isSome).length
    let atRest := ∀ v ∈ s.intake.lastV, v < 5
    (inUse ≠ 0 → exec .setup s = .next (replied s (transferBytes 4 2) .recordsHeld (BitVec.ofNat 16 inUse)))
    ∧ (∀ v ∈ s.intake.lastV, inUse = 0 → 5 ≤ v →
      exec .setup s = .next (replied s (transferBytes 4 2) .inMotion (BitVec.ofNat 16 v)))
    ∧ (inUse = 0 → atRest → s.ctl.mode = .setup → exec .setup s = .next (replied s (transferBytes 4 2) .ok 0))
    ∧ (inUse = 0 → atRest → s.ctl.mode ≠ .setup →
      exec .setup s = .next (replied { s with
        latches := Vector.replicate 16 { quals := [], hold := none }
        intake := { s.intake with pendingA := none, held := none, lastUsed := none, timer := none }
        health :=
          { retarder := { value := .fault, timer := none }, exhaust := { value := .fault, timer := none }
            modulator := Vector.replicate 3 { value := .fault, timer := none } }
        app :=
          { fcmd := 0, rho := 0, dir := .level
            last := { ret := 0, stage := 0, pressure := Vector.replicate 3 0 }, passCount := s.app.passCount }
        pass := none
        chassisTx := { slots := Vector.replicate 4 { front := none, begun := false, behind := none }, onAir := none }
        duty := { running := false, count := 0, warn := false }
        ctl := { s.ctl with
          mode := .setup, settingsValid := false, recovery := 0, lossHold := none, sigma := 0, fallback := true } }
        (transferBytes 4 2) .ok 0))

/-- A transfer refused on its form, and a COMMAND that names neither RUN nor SETUP, change nothing but the response, of whose
value the spec says nothing (R160, R166; log entry 5). The four bytes of a response are the code of its status (R182), its
value, least significant byte first, and the check byte over the three (R160). -/
def Obligations.TransferRefused : Prop :=
  [PortStatus.ok, .restarted, .framing, .badCheck, .badOperation, .badIndex, .noSelect, .readOnly, .notSetup, .range,
      .inconsistent, .recordsHeld, .inMotion].map PortStatus.code
      = [0x00, 0x01, 0x10, 0x11, 0x12, 0x13, 0x14, 0x15, 0x16, 0x17, 0x18, 0x19, 0x1A]
  ∧ (∀ r : Response, ∃ b0 b1 b2 : Byte, r.bytes = [b0, b1, b2, ~~~(b0 ^^^ b1 ^^^ b2)]
    ∧ b0.toNat = r.status.code ∧ b1.toNat + 256 * b2.toNat = r.value.toNat)
  ∧ ∀ (s : State), s.inReset = false →
    (∀ (bytes : List Byte) (st : PortStatus),
      (bytes.length < 4 ∧ st = .framing)
        ∨ (4 ≤ bytes.length ∧ byteAt bytes 3 ≠ ~~~ (byteAt bytes 0 ^^^ byteAt bytes 1 ^^^ byteAt bytes 2)
          ∧ st = .badCheck)
        ∨ (4 ≤ bytes.length ∧ byteAt bytes 3 = ~~~ (byteAt bytes 0 ^^^ byteAt bytes 1 ^^^ byteAt bytes 2)
          ∧ (byteAt bytes 0 = 0 ∨ 4 < (byteAt bytes 0).toNat) ∧ st = .badOperation) →
      ∃ (v : Half) (k : Nat),
        exec (.transferRefusedOnForm bytes) s = .next { replied s bytes st v with freeCount := k })
    ∧ (∀ code : Half, code ≠ 1 → code ≠ 2 → ∃ (v : Half) (k : Nat),
      exec (.unknownCommand code) s = .next { replied s (transferBytes 4 code) .badOperation v with freeCount := k })

/-! ## The laws every step keeps -/

/-- The FALLBACK line is asserted exactly in SETUP, STARTUP and FAILSAFE (R145); settings-valid is set exactly outside SETUP
(R147); the loss hold timer runs exactly in LOSS, and the recovery count and σ keep their ranges (R144, R155, R156, R158). -/
def Obligations.ModeLawsKept : Prop :=
  ∀ s t : State, step s = .next t →
    (FallbackLaw s → FallbackLaw t) ∧ (ValidLaw s → ValidLaw t) ∧ (ModeLaw s → ModeLaw t)

/-- The age order, the countdowns and the owners' handles keep their laws (R1, R4, R15), and a valid monitor names a live record
at its version (R20, R21). -/
def Obligations.TableAndMonitorLawsKept : Prop :=
  ∀ s t : State, step s = .next t → (TableLaw s → TableLaw t) ∧ (MonitorLaw s → MonitorLaw t)

/-- The intervention list, the waiting queue, the suppression flag and the record states keep the arbiter's laws (R57, R61). -/
def Obligations.ArbiterLawKept : Prop := ∀ s t : State, step s = .next t → ArbiterLaw s → ArbiterLaw t

/-- Every setting keeps its range (R164, R165), and every record fits its class and the settings (R2, R3, R150). -/
def Obligations.RecordAndSettingsLawsKept : Prop :=
  ∀ s t : State, step s = .next t → (SettingsLaw s → SettingsLaw t) ∧ (RecordLaw s → RecordLaw t)

/-- The commanded total (R108, R113), the pressure set-points (R122, R154) and the thermal accounts (R134) keep their laws. -/
def Obligations.FigureLawsKept : Prop :=
  ∀ s t : State, step s = .next t →
    (TotalLaw s → TotalLaw t) ∧ (PressureLaw s → PressureLaw t) ∧ (AccountLaw s → AccountLaw t)

/-- The vehicle transmit queue (R50), the latches (R44) and the chassis transmit slots (R124) keep their laws. -/
def Obligations.BufferLawsKept : Prop :=
  ∀ s t : State, step s = .next t → (QueueLaw s → QueueLaw t) ∧ (LatchLaw s → LatchLaw t) ∧ (SlotLaw s → SlotLaw t)

/-- The health entries (R84, R87), the sample intake (R71, R74, R80) and the duty timer (R141 to R143) keep their laws. -/
def Obligations.HealthIntakeAndDutyLawsKept : Prop :=
  ∀ s t : State, step s = .next t →
    (HealthLaw s → HealthLaw t) ∧ (IntakeLaw s → IntakeLaw t) ∧ (DutyLaw s → DutyLaw t)

/-- Every law holds in the state after reset. -/
def Obligations.ResetIsSafe : Prop := SafeState State.reset
end

