-- ==== Sys2Proof/Laws/State.lean ====
section
/-! SUPPORT. What each named update leaves unchanged: one lemma per field per update, so that no proof unfolds a record
update. -/

namespace Sys2Proof.Machine

variable (s : State)

/-! `putSlot` changes `demand`. -/

@[simp] theorem State.putSlot_pending (i : SlotId) (x : Slot) : (s.putSlot i x).pending = s.pending := rfl
@[simp] theorem State.putSlot_inReset (i : SlotId) (x : Slot) : (s.putSlot i x).inReset = s.inReset := rfl
@[simp] theorem State.putSlot_vehicleTx (i : SlotId) (x : Slot) : (s.putSlot i x).vehicleTx = s.vehicleTx := rfl
@[simp] theorem State.putSlot_latches (i : SlotId) (x : Slot) : (s.putSlot i x).latches = s.latches := rfl
@[simp] theorem State.putSlot_monitors (i : SlotId) (x : Slot) : (s.putSlot i x).monitors = s.monitors := rfl
@[simp] theorem State.putSlot_arbiter (i : SlotId) (x : Slot) : (s.putSlot i x).arbiter = s.arbiter := rfl
@[simp] theorem State.putSlot_intake (i : SlotId) (x : Slot) : (s.putSlot i x).intake = s.intake := rfl
@[simp] theorem State.putSlot_health (i : SlotId) (x : Slot) : (s.putSlot i x).health = s.health := rfl
@[simp] theorem State.putSlot_settings (i : SlotId) (x : Slot) : (s.putSlot i x).settings = s.settings := rfl
@[simp] theorem State.putSlot_app (i : SlotId) (x : Slot) : (s.putSlot i x).app = s.app := rfl
@[simp] theorem State.putSlot_pass (i : SlotId) (x : Slot) : (s.putSlot i x).pass = s.pass := rfl
@[simp] theorem State.putSlot_chassisTx (i : SlotId) (x : Slot) : (s.putSlot i x).chassisTx = s.chassisTx := rfl
@[simp] theorem State.putSlot_accounts (i : SlotId) (x : Slot) : (s.putSlot i x).accounts = s.accounts := rfl
@[simp] theorem State.putSlot_duty (i : SlotId) (x : Slot) : (s.putSlot i x).duty = s.duty := rfl
@[simp] theorem State.putSlot_ctl (i : SlotId) (x : Slot) : (s.putSlot i x).ctl = s.ctl := rfl
@[simp] theorem State.putSlot_port (i : SlotId) (x : Slot) : (s.putSlot i x).port = s.port := rfl
@[simp] theorem State.putSlot_freeCount (i : SlotId) (x : Slot) : (s.putSlot i x).freeCount = s.freeCount := rfl

/-! `mapSlots` changes `demand`. -/

@[simp] theorem State.mapSlots_pending (f : Slot → Slot) : (s.mapSlots f).pending = s.pending := by unfold State.mapSlots; rfl
@[simp] theorem State.mapSlots_inReset (f : Slot → Slot) : (s.mapSlots f).inReset = s.inReset := by unfold State.mapSlots; rfl
@[simp] theorem State.mapSlots_vehicleTx (f : Slot → Slot) : (s.mapSlots f).vehicleTx = s.vehicleTx := by unfold State.mapSlots; rfl
@[simp] theorem State.mapSlots_latches (f : Slot → Slot) : (s.mapSlots f).latches = s.latches := by unfold State.mapSlots; rfl
@[simp] theorem State.mapSlots_monitors (f : Slot → Slot) : (s.mapSlots f).monitors = s.monitors := by unfold State.mapSlots; rfl
@[simp] theorem State.mapSlots_arbiter (f : Slot → Slot) : (s.mapSlots f).arbiter = s.arbiter := by unfold State.mapSlots; rfl
@[simp] theorem State.mapSlots_intake (f : Slot → Slot) : (s.mapSlots f).intake = s.intake := by unfold State.mapSlots; rfl
@[simp] theorem State.mapSlots_health (f : Slot → Slot) : (s.mapSlots f).health = s.health := by unfold State.mapSlots; rfl
@[simp] theorem State.mapSlots_settings (f : Slot → Slot) : (s.mapSlots f).settings = s.settings := by unfold State.mapSlots; rfl
@[simp] theorem State.mapSlots_app (f : Slot → Slot) : (s.mapSlots f).app = s.app := by unfold State.mapSlots; rfl
@[simp] theorem State.mapSlots_pass (f : Slot → Slot) : (s.mapSlots f).pass = s.pass := by unfold State.mapSlots; rfl
@[simp] theorem State.mapSlots_chassisTx (f : Slot → Slot) : (s.mapSlots f).chassisTx = s.chassisTx := by unfold State.mapSlots; rfl
@[simp] theorem State.mapSlots_accounts (f : Slot → Slot) : (s.mapSlots f).accounts = s.accounts := by unfold State.mapSlots; rfl
@[simp] theorem State.mapSlots_duty (f : Slot → Slot) : (s.mapSlots f).duty = s.duty := by unfold State.mapSlots; rfl
@[simp] theorem State.mapSlots_ctl (f : Slot → Slot) : (s.mapSlots f).ctl = s.ctl := by unfold State.mapSlots; rfl
@[simp] theorem State.mapSlots_port (f : Slot → Slot) : (s.mapSlots f).port = s.port := by unfold State.mapSlots; rfl
@[simp] theorem State.mapSlots_freeCount (f : Slot → Slot) : (s.mapSlots f).freeCount = s.freeCount := by unfold State.mapSlots; rfl

/-! `enterState` changes `demand`. -/

@[simp] theorem State.enterState_pending (i : SlotId) (st : RecState) : (s.enterState i st).pending = s.pending := rfl
@[simp] theorem State.enterState_inReset (i : SlotId) (st : RecState) : (s.enterState i st).inReset = s.inReset := rfl
@[simp] theorem State.enterState_vehicleTx (i : SlotId) (st : RecState) : (s.enterState i st).vehicleTx = s.vehicleTx := rfl
@[simp] theorem State.enterState_latches (i : SlotId) (st : RecState) : (s.enterState i st).latches = s.latches := rfl
@[simp] theorem State.enterState_monitors (i : SlotId) (st : RecState) : (s.enterState i st).monitors = s.monitors := rfl
@[simp] theorem State.enterState_arbiter (i : SlotId) (st : RecState) : (s.enterState i st).arbiter = s.arbiter := rfl
@[simp] theorem State.enterState_intake (i : SlotId) (st : RecState) : (s.enterState i st).intake = s.intake := rfl
@[simp] theorem State.enterState_health (i : SlotId) (st : RecState) : (s.enterState i st).health = s.health := rfl
@[simp] theorem State.enterState_settings (i : SlotId) (st : RecState) : (s.enterState i st).settings = s.settings := rfl
@[simp] theorem State.enterState_app (i : SlotId) (st : RecState) : (s.enterState i st).app = s.app := rfl
@[simp] theorem State.enterState_pass (i : SlotId) (st : RecState) : (s.enterState i st).pass = s.pass := rfl
@[simp] theorem State.enterState_chassisTx (i : SlotId) (st : RecState) : (s.enterState i st).chassisTx = s.chassisTx := rfl
@[simp] theorem State.enterState_accounts (i : SlotId) (st : RecState) : (s.enterState i st).accounts = s.accounts := rfl
@[simp] theorem State.enterState_duty (i : SlotId) (st : RecState) : (s.enterState i st).duty = s.duty := rfl
@[simp] theorem State.enterState_ctl (i : SlotId) (st : RecState) : (s.enterState i st).ctl = s.ctl := rfl
@[simp] theorem State.enterState_port (i : SlotId) (st : RecState) : (s.enterState i st).port = s.port := rfl
@[simp] theorem State.enterState_freeCount (i : SlotId) (st : RecState) : (s.enterState i st).freeCount = s.freeCount := rfl

/-! `clearMonitorsOf` changes `monitors`. -/

@[simp] theorem State.clearMonitorsOf_pending (i : SlotId) : (s.clearMonitorsOf i).pending = s.pending := by unfold State.clearMonitorsOf; rfl
@[simp] theorem State.clearMonitorsOf_inReset (i : SlotId) : (s.clearMonitorsOf i).inReset = s.inReset := by unfold State.clearMonitorsOf; rfl
@[simp] theorem State.clearMonitorsOf_vehicleTx (i : SlotId) : (s.clearMonitorsOf i).vehicleTx = s.vehicleTx := by unfold State.clearMonitorsOf; rfl
@[simp] theorem State.clearMonitorsOf_latches (i : SlotId) : (s.clearMonitorsOf i).latches = s.latches := by unfold State.clearMonitorsOf; rfl
@[simp] theorem State.clearMonitorsOf_demand (i : SlotId) : (s.clearMonitorsOf i).demand = s.demand := by unfold State.clearMonitorsOf; rfl
@[simp] theorem State.clearMonitorsOf_arbiter (i : SlotId) : (s.clearMonitorsOf i).arbiter = s.arbiter := by unfold State.clearMonitorsOf; rfl
@[simp] theorem State.clearMonitorsOf_intake (i : SlotId) : (s.clearMonitorsOf i).intake = s.intake := by unfold State.clearMonitorsOf; rfl
@[simp] theorem State.clearMonitorsOf_health (i : SlotId) : (s.clearMonitorsOf i).health = s.health := by unfold State.clearMonitorsOf; rfl
@[simp] theorem State.clearMonitorsOf_settings (i : SlotId) : (s.clearMonitorsOf i).settings = s.settings := by unfold State.clearMonitorsOf; rfl
@[simp] theorem State.clearMonitorsOf_app (i : SlotId) : (s.clearMonitorsOf i).app = s.app := by unfold State.clearMonitorsOf; rfl
@[simp] theorem State.clearMonitorsOf_pass (i : SlotId) : (s.clearMonitorsOf i).pass = s.pass := by unfold State.clearMonitorsOf; rfl
@[simp] theorem State.clearMonitorsOf_chassisTx (i : SlotId) : (s.clearMonitorsOf i).chassisTx = s.chassisTx := by unfold State.clearMonitorsOf; rfl
@[simp] theorem State.clearMonitorsOf_accounts (i : SlotId) : (s.clearMonitorsOf i).accounts = s.accounts := by unfold State.clearMonitorsOf; rfl
@[simp] theorem State.clearMonitorsOf_duty (i : SlotId) : (s.clearMonitorsOf i).duty = s.duty := by unfold State.clearMonitorsOf; rfl
@[simp] theorem State.clearMonitorsOf_ctl (i : SlotId) : (s.clearMonitorsOf i).ctl = s.ctl := by unfold State.clearMonitorsOf; rfl
@[simp] theorem State.clearMonitorsOf_port (i : SlotId) : (s.clearMonitorsOf i).port = s.port := by unfold State.clearMonitorsOf; rfl
@[simp] theorem State.clearMonitorsOf_freeCount (i : SlotId) : (s.clearMonitorsOf i).freeCount = s.freeCount := by unfold State.clearMonitorsOf; rfl

/-! `clearMonitor` changes `monitors`. -/

@[simp] theorem State.clearMonitor_pending (n : Node) : (s.clearMonitor n).pending = s.pending := rfl
@[simp] theorem State.clearMonitor_inReset (n : Node) : (s.clearMonitor n).inReset = s.inReset := rfl
@[simp] theorem State.clearMonitor_vehicleTx (n : Node) : (s.clearMonitor n).vehicleTx = s.vehicleTx := rfl
@[simp] theorem State.clearMonitor_latches (n : Node) : (s.clearMonitor n).latches = s.latches := rfl
@[simp] theorem State.clearMonitor_demand (n : Node) : (s.clearMonitor n).demand = s.demand := rfl
@[simp] theorem State.clearMonitor_arbiter (n : Node) : (s.clearMonitor n).arbiter = s.arbiter := rfl
@[simp] theorem State.clearMonitor_intake (n : Node) : (s.clearMonitor n).intake = s.intake := rfl
@[simp] theorem State.clearMonitor_health (n : Node) : (s.clearMonitor n).health = s.health := rfl
@[simp] theorem State.clearMonitor_settings (n : Node) : (s.clearMonitor n).settings = s.settings := rfl
@[simp] theorem State.clearMonitor_app (n : Node) : (s.clearMonitor n).app = s.app := rfl
@[simp] theorem State.clearMonitor_pass (n : Node) : (s.clearMonitor n).pass = s.pass := rfl
@[simp] theorem State.clearMonitor_chassisTx (n : Node) : (s.clearMonitor n).chassisTx = s.chassisTx := rfl
@[simp] theorem State.clearMonitor_accounts (n : Node) : (s.clearMonitor n).accounts = s.accounts := rfl
@[simp] theorem State.clearMonitor_duty (n : Node) : (s.clearMonitor n).duty = s.duty := rfl
@[simp] theorem State.clearMonitor_ctl (n : Node) : (s.clearMonitor n).ctl = s.ctl := rfl
@[simp] theorem State.clearMonitor_port (n : Node) : (s.clearMonitor n).port = s.port := rfl
@[simp] theorem State.clearMonitor_freeCount (n : Node) : (s.clearMonitor n).freeCount = s.freeCount := rfl

/-! `setMonitor` changes `monitors`. -/

@[simp] theorem State.setMonitor_pending (n : Node) (i : SlotId) (v : BitVec 8) : (s.setMonitor n i v).pending = s.pending := rfl
@[simp] theorem State.setMonitor_inReset (n : Node) (i : SlotId) (v : BitVec 8) : (s.setMonitor n i v).inReset = s.inReset := rfl
@[simp] theorem State.setMonitor_vehicleTx (n : Node) (i : SlotId) (v : BitVec 8) : (s.setMonitor n i v).vehicleTx = s.vehicleTx := rfl
@[simp] theorem State.setMonitor_latches (n : Node) (i : SlotId) (v : BitVec 8) : (s.setMonitor n i v).latches = s.latches := rfl
@[simp] theorem State.setMonitor_demand (n : Node) (i : SlotId) (v : BitVec 8) : (s.setMonitor n i v).demand = s.demand := rfl
@[simp] theorem State.setMonitor_arbiter (n : Node) (i : SlotId) (v : BitVec 8) : (s.setMonitor n i v).arbiter = s.arbiter := rfl
@[simp] theorem State.setMonitor_intake (n : Node) (i : SlotId) (v : BitVec 8) : (s.setMonitor n i v).intake = s.intake := rfl
@[simp] theorem State.setMonitor_health (n : Node) (i : SlotId) (v : BitVec 8) : (s.setMonitor n i v).health = s.health := rfl
@[simp] theorem State.setMonitor_settings (n : Node) (i : SlotId) (v : BitVec 8) : (s.setMonitor n i v).settings = s.settings := rfl
@[simp] theorem State.setMonitor_app (n : Node) (i : SlotId) (v : BitVec 8) : (s.setMonitor n i v).app = s.app := rfl
@[simp] theorem State.setMonitor_pass (n : Node) (i : SlotId) (v : BitVec 8) : (s.setMonitor n i v).pass = s.pass := rfl
@[simp] theorem State.setMonitor_chassisTx (n : Node) (i : SlotId) (v : BitVec 8) : (s.setMonitor n i v).chassisTx = s.chassisTx := rfl
@[simp] theorem State.setMonitor_accounts (n : Node) (i : SlotId) (v : BitVec 8) : (s.setMonitor n i v).accounts = s.accounts := rfl
@[simp] theorem State.setMonitor_duty (n : Node) (i : SlotId) (v : BitVec 8) : (s.setMonitor n i v).duty = s.duty := rfl
@[simp] theorem State.setMonitor_ctl (n : Node) (i : SlotId) (v : BitVec 8) : (s.setMonitor n i v).ctl = s.ctl := rfl
@[simp] theorem State.setMonitor_port (n : Node) (i : SlotId) (v : BitVec 8) : (s.setMonitor n i v).port = s.port := rfl
@[simp] theorem State.setMonitor_freeCount (n : Node) (i : SlotId) (v : BitVec 8) : (s.setMonitor n i v).freeCount = s.freeCount := rfl

/-! `emptyLatch` changes `latches`. -/

@[simp] theorem State.emptyLatch_pending (n : Node) : (s.emptyLatch n).pending = s.pending := rfl
@[simp] theorem State.emptyLatch_inReset (n : Node) : (s.emptyLatch n).inReset = s.inReset := rfl
@[simp] theorem State.emptyLatch_vehicleTx (n : Node) : (s.emptyLatch n).vehicleTx = s.vehicleTx := rfl
@[simp] theorem State.emptyLatch_demand (n : Node) : (s.emptyLatch n).demand = s.demand := rfl
@[simp] theorem State.emptyLatch_monitors (n : Node) : (s.emptyLatch n).monitors = s.monitors := rfl
@[simp] theorem State.emptyLatch_arbiter (n : Node) : (s.emptyLatch n).arbiter = s.arbiter := rfl
@[simp] theorem State.emptyLatch_intake (n : Node) : (s.emptyLatch n).intake = s.intake := rfl
@[simp] theorem State.emptyLatch_health (n : Node) : (s.emptyLatch n).health = s.health := rfl
@[simp] theorem State.emptyLatch_settings (n : Node) : (s.emptyLatch n).settings = s.settings := rfl
@[simp] theorem State.emptyLatch_app (n : Node) : (s.emptyLatch n).app = s.app := rfl
@[simp] theorem State.emptyLatch_pass (n : Node) : (s.emptyLatch n).pass = s.pass := rfl
@[simp] theorem State.emptyLatch_chassisTx (n : Node) : (s.emptyLatch n).chassisTx = s.chassisTx := rfl
@[simp] theorem State.emptyLatch_accounts (n : Node) : (s.emptyLatch n).accounts = s.accounts := rfl
@[simp] theorem State.emptyLatch_duty (n : Node) : (s.emptyLatch n).duty = s.duty := rfl
@[simp] theorem State.emptyLatch_ctl (n : Node) : (s.emptyLatch n).ctl = s.ctl := rfl
@[simp] theorem State.emptyLatch_port (n : Node) : (s.emptyLatch n).port = s.port := rfl
@[simp] theorem State.emptyLatch_freeCount (n : Node) : (s.emptyLatch n).freeCount = s.freeCount := rfl

/-! `freeSlot` changes `demand`, `monitors`. -/

@[simp] theorem State.freeSlot_pending (i : SlotId) : (s.freeSlot i).pending = s.pending := rfl
@[simp] theorem State.freeSlot_inReset (i : SlotId) : (s.freeSlot i).inReset = s.inReset := rfl
@[simp] theorem State.freeSlot_vehicleTx (i : SlotId) : (s.freeSlot i).vehicleTx = s.vehicleTx := rfl
@[simp] theorem State.freeSlot_latches (i : SlotId) : (s.freeSlot i).latches = s.latches := rfl
@[simp] theorem State.freeSlot_arbiter (i : SlotId) : (s.freeSlot i).arbiter = s.arbiter := rfl
@[simp] theorem State.freeSlot_intake (i : SlotId) : (s.freeSlot i).intake = s.intake := rfl
@[simp] theorem State.freeSlot_health (i : SlotId) : (s.freeSlot i).health = s.health := rfl
@[simp] theorem State.freeSlot_settings (i : SlotId) : (s.freeSlot i).settings = s.settings := rfl
@[simp] theorem State.freeSlot_app (i : SlotId) : (s.freeSlot i).app = s.app := rfl
@[simp] theorem State.freeSlot_pass (i : SlotId) : (s.freeSlot i).pass = s.pass := rfl
@[simp] theorem State.freeSlot_chassisTx (i : SlotId) : (s.freeSlot i).chassisTx = s.chassisTx := rfl
@[simp] theorem State.freeSlot_accounts (i : SlotId) : (s.freeSlot i).accounts = s.accounts := rfl
@[simp] theorem State.freeSlot_duty (i : SlotId) : (s.freeSlot i).duty = s.duty := rfl
@[simp] theorem State.freeSlot_ctl (i : SlotId) : (s.freeSlot i).ctl = s.ctl := rfl
@[simp] theorem State.freeSlot_port (i : SlotId) : (s.freeSlot i).port = s.port := rfl
@[simp] theorem State.freeSlot_freeCount (i : SlotId) : (s.freeSlot i).freeCount = s.freeCount := rfl

/-! `createRecord` changes `demand`, `monitors`. -/

@[simp] theorem State.createRecord_pending (i : SlotId) (r : Record) : (s.createRecord i r).pending = s.pending := rfl
@[simp] theorem State.createRecord_inReset (i : SlotId) (r : Record) : (s.createRecord i r).inReset = s.inReset := rfl
@[simp] theorem State.createRecord_vehicleTx (i : SlotId) (r : Record) : (s.createRecord i r).vehicleTx = s.vehicleTx := rfl
@[simp] theorem State.createRecord_latches (i : SlotId) (r : Record) : (s.createRecord i r).latches = s.latches := rfl
@[simp] theorem State.createRecord_arbiter (i : SlotId) (r : Record) : (s.createRecord i r).arbiter = s.arbiter := rfl
@[simp] theorem State.createRecord_intake (i : SlotId) (r : Record) : (s.createRecord i r).intake = s.intake := rfl
@[simp] theorem State.createRecord_health (i : SlotId) (r : Record) : (s.createRecord i r).health = s.health := rfl
@[simp] theorem State.createRecord_settings (i : SlotId) (r : Record) : (s.createRecord i r).settings = s.settings := rfl
@[simp] theorem State.createRecord_app (i : SlotId) (r : Record) : (s.createRecord i r).app = s.app := rfl
@[simp] theorem State.createRecord_pass (i : SlotId) (r : Record) : (s.createRecord i r).pass = s.pass := rfl
@[simp] theorem State.createRecord_chassisTx (i : SlotId) (r : Record) : (s.createRecord i r).chassisTx = s.chassisTx := rfl
@[simp] theorem State.createRecord_accounts (i : SlotId) (r : Record) : (s.createRecord i r).accounts = s.accounts := rfl
@[simp] theorem State.createRecord_duty (i : SlotId) (r : Record) : (s.createRecord i r).duty = s.duty := rfl
@[simp] theorem State.createRecord_ctl (i : SlotId) (r : Record) : (s.createRecord i r).ctl = s.ctl := rfl
@[simp] theorem State.createRecord_port (i : SlotId) (r : Record) : (s.createRecord i r).port = s.port := rfl
@[simp] theorem State.createRecord_freeCount (i : SlotId) (r : Record) : (s.createRecord i r).freeCount = s.freeCount := rfl

/-! `setMode` changes `ctl`. -/

@[simp] theorem State.setMode_pending (m : Mode) : (s.setMode m).pending = s.pending := rfl
@[simp] theorem State.setMode_inReset (m : Mode) : (s.setMode m).inReset = s.inReset := rfl
@[simp] theorem State.setMode_vehicleTx (m : Mode) : (s.setMode m).vehicleTx = s.vehicleTx := rfl
@[simp] theorem State.setMode_latches (m : Mode) : (s.setMode m).latches = s.latches := rfl
@[simp] theorem State.setMode_demand (m : Mode) : (s.setMode m).demand = s.demand := rfl
@[simp] theorem State.setMode_monitors (m : Mode) : (s.setMode m).monitors = s.monitors := rfl
@[simp] theorem State.setMode_arbiter (m : Mode) : (s.setMode m).arbiter = s.arbiter := rfl
@[simp] theorem State.setMode_intake (m : Mode) : (s.setMode m).intake = s.intake := rfl
@[simp] theorem State.setMode_health (m : Mode) : (s.setMode m).health = s.health := rfl
@[simp] theorem State.setMode_settings (m : Mode) : (s.setMode m).settings = s.settings := rfl
@[simp] theorem State.setMode_app (m : Mode) : (s.setMode m).app = s.app := rfl
@[simp] theorem State.setMode_pass (m : Mode) : (s.setMode m).pass = s.pass := rfl
@[simp] theorem State.setMode_chassisTx (m : Mode) : (s.setMode m).chassisTx = s.chassisTx := rfl
@[simp] theorem State.setMode_accounts (m : Mode) : (s.setMode m).accounts = s.accounts := rfl
@[simp] theorem State.setMode_duty (m : Mode) : (s.setMode m).duty = s.duty := rfl
@[simp] theorem State.setMode_port (m : Mode) : (s.setMode m).port = s.port := rfl
@[simp] theorem State.setMode_freeCount (m : Mode) : (s.setMode m).freeCount = s.freeCount := rfl

/-! `clearRecovery` changes `ctl`. -/

@[simp] theorem State.clearRecovery_pending : (s.clearRecovery).pending = s.pending := rfl
@[simp] theorem State.clearRecovery_inReset : (s.clearRecovery).inReset = s.inReset := rfl
@[simp] theorem State.clearRecovery_vehicleTx : (s.clearRecovery).vehicleTx = s.vehicleTx := rfl
@[simp] theorem State.clearRecovery_latches : (s.clearRecovery).latches = s.latches := rfl
@[simp] theorem State.clearRecovery_demand : (s.clearRecovery).demand = s.demand := rfl
@[simp] theorem State.clearRecovery_monitors : (s.clearRecovery).monitors = s.monitors := rfl
@[simp] theorem State.clearRecovery_arbiter : (s.clearRecovery).arbiter = s.arbiter := rfl
@[simp] theorem State.clearRecovery_intake : (s.clearRecovery).intake = s.intake := rfl
@[simp] theorem State.clearRecovery_health : (s.clearRecovery).health = s.health := rfl
@[simp] theorem State.clearRecovery_settings : (s.clearRecovery).settings = s.settings := rfl
@[simp] theorem State.clearRecovery_app : (s.clearRecovery).app = s.app := rfl
@[simp] theorem State.clearRecovery_pass : (s.clearRecovery).pass = s.pass := rfl
@[simp] theorem State.clearRecovery_chassisTx : (s.clearRecovery).chassisTx = s.chassisTx := rfl
@[simp] theorem State.clearRecovery_accounts : (s.clearRecovery).accounts = s.accounts := rfl
@[simp] theorem State.clearRecovery_duty : (s.clearRecovery).duty = s.duty := rfl
@[simp] theorem State.clearRecovery_port : (s.clearRecovery).port = s.port := rfl
@[simp] theorem State.clearRecovery_freeCount : (s.clearRecovery).freeCount = s.freeCount := rfl

/-! `respond` changes `port`. -/

@[simp] theorem State.respond_pending (st : PortStatus) (value : Half) : (s.respond st value).pending = s.pending := rfl
@[simp] theorem State.respond_inReset (st : PortStatus) (value : Half) : (s.respond st value).inReset = s.inReset := rfl
@[simp] theorem State.respond_vehicleTx (st : PortStatus) (value : Half) : (s.respond st value).vehicleTx = s.vehicleTx := rfl
@[simp] theorem State.respond_latches (st : PortStatus) (value : Half) : (s.respond st value).latches = s.latches := rfl
@[simp] theorem State.respond_demand (st : PortStatus) (value : Half) : (s.respond st value).demand = s.demand := rfl
@[simp] theorem State.respond_monitors (st : PortStatus) (value : Half) : (s.respond st value).monitors = s.monitors := rfl
@[simp] theorem State.respond_arbiter (st : PortStatus) (value : Half) : (s.respond st value).arbiter = s.arbiter := rfl
@[simp] theorem State.respond_intake (st : PortStatus) (value : Half) : (s.respond st value).intake = s.intake := rfl
@[simp] theorem State.respond_health (st : PortStatus) (value : Half) : (s.respond st value).health = s.health := rfl
@[simp] theorem State.respond_settings (st : PortStatus) (value : Half) : (s.respond st value).settings = s.settings := rfl
@[simp] theorem State.respond_app (st : PortStatus) (value : Half) : (s.respond st value).app = s.app := rfl
@[simp] theorem State.respond_pass (st : PortStatus) (value : Half) : (s.respond st value).pass = s.pass := rfl
@[simp] theorem State.respond_chassisTx (st : PortStatus) (value : Half) : (s.respond st value).chassisTx = s.chassisTx := rfl
@[simp] theorem State.respond_accounts (st : PortStatus) (value : Half) : (s.respond st value).accounts = s.accounts := rfl
@[simp] theorem State.respond_duty (st : PortStatus) (value : Half) : (s.respond st value).duty = s.duty := rfl
@[simp] theorem State.respond_ctl (st : PortStatus) (value : Half) : (s.respond st value).ctl = s.ctl := rfl
@[simp] theorem State.respond_freeCount (st : PortStatus) (value : Half) : (s.respond st value).freeCount = s.freeCount := rfl

/-! `respondFree` changes `port`, `freeCount`. -/

@[simp] theorem State.respondFree_pending (st : PortStatus) : (s.respondFree st).pending = s.pending := rfl
@[simp] theorem State.respondFree_inReset (st : PortStatus) : (s.respondFree st).inReset = s.inReset := rfl
@[simp] theorem State.respondFree_vehicleTx (st : PortStatus) : (s.respondFree st).vehicleTx = s.vehicleTx := rfl
@[simp] theorem State.respondFree_latches (st : PortStatus) : (s.respondFree st).latches = s.latches := rfl
@[simp] theorem State.respondFree_demand (st : PortStatus) : (s.respondFree st).demand = s.demand := rfl
@[simp] theorem State.respondFree_monitors (st : PortStatus) : (s.respondFree st).monitors = s.monitors := rfl
@[simp] theorem State.respondFree_arbiter (st : PortStatus) : (s.respondFree st).arbiter = s.arbiter := rfl
@[simp] theorem State.respondFree_intake (st : PortStatus) : (s.respondFree st).intake = s.intake := rfl
@[simp] theorem State.respondFree_health (st : PortStatus) : (s.respondFree st).health = s.health := rfl
@[simp] theorem State.respondFree_settings (st : PortStatus) : (s.respondFree st).settings = s.settings := rfl
@[simp] theorem State.respondFree_app (st : PortStatus) : (s.respondFree st).app = s.app := rfl
@[simp] theorem State.respondFree_pass (st : PortStatus) : (s.respondFree st).pass = s.pass := rfl
@[simp] theorem State.respondFree_chassisTx (st : PortStatus) : (s.respondFree st).chassisTx = s.chassisTx := rfl
@[simp] theorem State.respondFree_accounts (st : PortStatus) : (s.respondFree st).accounts = s.accounts := rfl
@[simp] theorem State.respondFree_duty (st : PortStatus) : (s.respondFree st).duty = s.duty := rfl
@[simp] theorem State.respondFree_ctl (st : PortStatus) : (s.respondFree st).ctl = s.ctl := rfl

/-! `clock` changes `port`. -/

@[simp] theorem State.clock_pending (bytes : List Byte) : (s.clock bytes).pending = s.pending := rfl
@[simp] theorem State.clock_inReset (bytes : List Byte) : (s.clock bytes).inReset = s.inReset := rfl
@[simp] theorem State.clock_vehicleTx (bytes : List Byte) : (s.clock bytes).vehicleTx = s.vehicleTx := rfl
@[simp] theorem State.clock_latches (bytes : List Byte) : (s.clock bytes).latches = s.latches := rfl
@[simp] theorem State.clock_demand (bytes : List Byte) : (s.clock bytes).demand = s.demand := rfl
@[simp] theorem State.clock_monitors (bytes : List Byte) : (s.clock bytes).monitors = s.monitors := rfl
@[simp] theorem State.clock_arbiter (bytes : List Byte) : (s.clock bytes).arbiter = s.arbiter := rfl
@[simp] theorem State.clock_intake (bytes : List Byte) : (s.clock bytes).intake = s.intake := rfl
@[simp] theorem State.clock_health (bytes : List Byte) : (s.clock bytes).health = s.health := rfl
@[simp] theorem State.clock_settings (bytes : List Byte) : (s.clock bytes).settings = s.settings := rfl
@[simp] theorem State.clock_app (bytes : List Byte) : (s.clock bytes).app = s.app := rfl
@[simp] theorem State.clock_pass (bytes : List Byte) : (s.clock bytes).pass = s.pass := rfl
@[simp] theorem State.clock_chassisTx (bytes : List Byte) : (s.clock bytes).chassisTx = s.chassisTx := rfl
@[simp] theorem State.clock_accounts (bytes : List Byte) : (s.clock bytes).accounts = s.accounts := rfl
@[simp] theorem State.clock_duty (bytes : List Byte) : (s.clock bytes).duty = s.duty := rfl
@[simp] theorem State.clock_ctl (bytes : List Byte) : (s.clock bytes).ctl = s.ctl := rfl
@[simp] theorem State.clock_freeCount (bytes : List Byte) : (s.clock bytes).freeCount = s.freeCount := rfl

/-! `point` changes `port`. -/

@[simp] theorem State.point_pending (p : Option PortIndex) : (s.point p).pending = s.pending := rfl
@[simp] theorem State.point_inReset (p : Option PortIndex) : (s.point p).inReset = s.inReset := rfl
@[simp] theorem State.point_vehicleTx (p : Option PortIndex) : (s.point p).vehicleTx = s.vehicleTx := rfl
@[simp] theorem State.point_latches (p : Option PortIndex) : (s.point p).latches = s.latches := rfl
@[simp] theorem State.point_demand (p : Option PortIndex) : (s.point p).demand = s.demand := rfl
@[simp] theorem State.point_monitors (p : Option PortIndex) : (s.point p).monitors = s.monitors := rfl
@[simp] theorem State.point_arbiter (p : Option PortIndex) : (s.point p).arbiter = s.arbiter := rfl
@[simp] theorem State.point_intake (p : Option PortIndex) : (s.point p).intake = s.intake := rfl
@[simp] theorem State.point_health (p : Option PortIndex) : (s.point p).health = s.health := rfl
@[simp] theorem State.point_settings (p : Option PortIndex) : (s.point p).settings = s.settings := rfl
@[simp] theorem State.point_app (p : Option PortIndex) : (s.point p).app = s.app := rfl
@[simp] theorem State.point_pass (p : Option PortIndex) : (s.point p).pass = s.pass := rfl
@[simp] theorem State.point_chassisTx (p : Option PortIndex) : (s.point p).chassisTx = s.chassisTx := rfl
@[simp] theorem State.point_accounts (p : Option PortIndex) : (s.point p).accounts = s.accounts := rfl
@[simp] theorem State.point_duty (p : Option PortIndex) : (s.point p).duty = s.duty := rfl
@[simp] theorem State.point_ctl (p : Option PortIndex) : (s.point p).ctl = s.ctl := rfl
@[simp] theorem State.point_freeCount (p : Option PortIndex) : (s.point p).freeCount = s.freeCount := rfl

/-! `updateCover` changes `demand`. -/

@[simp] theorem State.updateCover_pending (p : Pass) (d : Nat) : (s.updateCover p d).pending = s.pending := by unfold State.updateCover; rfl
@[simp] theorem State.updateCover_inReset (p : Pass) (d : Nat) : (s.updateCover p d).inReset = s.inReset := by unfold State.updateCover; rfl
@[simp] theorem State.updateCover_vehicleTx (p : Pass) (d : Nat) : (s.updateCover p d).vehicleTx = s.vehicleTx := by unfold State.updateCover; rfl
@[simp] theorem State.updateCover_latches (p : Pass) (d : Nat) : (s.updateCover p d).latches = s.latches := by unfold State.updateCover; rfl
@[simp] theorem State.updateCover_monitors (p : Pass) (d : Nat) : (s.updateCover p d).monitors = s.monitors := by unfold State.updateCover; rfl
@[simp] theorem State.updateCover_arbiter (p : Pass) (d : Nat) : (s.updateCover p d).arbiter = s.arbiter := by unfold State.updateCover; rfl
@[simp] theorem State.updateCover_intake (p : Pass) (d : Nat) : (s.updateCover p d).intake = s.intake := by unfold State.updateCover; rfl
@[simp] theorem State.updateCover_health (p : Pass) (d : Nat) : (s.updateCover p d).health = s.health := by unfold State.updateCover; rfl
@[simp] theorem State.updateCover_settings (p : Pass) (d : Nat) : (s.updateCover p d).settings = s.settings := by unfold State.updateCover; rfl
@[simp] theorem State.updateCover_app (p : Pass) (d : Nat) : (s.updateCover p d).app = s.app := by unfold State.updateCover; rfl
@[simp] theorem State.updateCover_pass (p : Pass) (d : Nat) : (s.updateCover p d).pass = s.pass := by unfold State.updateCover; rfl
@[simp] theorem State.updateCover_chassisTx (p : Pass) (d : Nat) : (s.updateCover p d).chassisTx = s.chassisTx := by unfold State.updateCover; rfl
@[simp] theorem State.updateCover_accounts (p : Pass) (d : Nat) : (s.updateCover p d).accounts = s.accounts := by unfold State.updateCover; rfl
@[simp] theorem State.updateCover_duty (p : Pass) (d : Nat) : (s.updateCover p d).duty = s.duty := by unfold State.updateCover; rfl
@[simp] theorem State.updateCover_ctl (p : Pass) (d : Nat) : (s.updateCover p d).ctl = s.ctl := by unfold State.updateCover; rfl
@[simp] theorem State.updateCover_port (p : Pass) (d : Nat) : (s.updateCover p d).port = s.port := by unfold State.updateCover; rfl
@[simp] theorem State.updateCover_freeCount (p : Pass) (d : Nat) : (s.updateCover p d).freeCount = s.freeCount := by unfold State.updateCover; rfl

/-! `updateThermal` changes `accounts`. -/

@[simp] theorem State.updateThermal_pending (shares : Vector Nat 3) (v dt : Nat) (ambient : Int) : (s.updateThermal shares v dt ambient).pending = s.pending := by unfold State.updateThermal; rfl
@[simp] theorem State.updateThermal_inReset (shares : Vector Nat 3) (v dt : Nat) (ambient : Int) : (s.updateThermal shares v dt ambient).inReset = s.inReset := by unfold State.updateThermal; rfl
@[simp] theorem State.updateThermal_vehicleTx (shares : Vector Nat 3) (v dt : Nat) (ambient : Int) : (s.updateThermal shares v dt ambient).vehicleTx = s.vehicleTx := by unfold State.updateThermal; rfl
@[simp] theorem State.updateThermal_latches (shares : Vector Nat 3) (v dt : Nat) (ambient : Int) : (s.updateThermal shares v dt ambient).latches = s.latches := by unfold State.updateThermal; rfl
@[simp] theorem State.updateThermal_demand (shares : Vector Nat 3) (v dt : Nat) (ambient : Int) : (s.updateThermal shares v dt ambient).demand = s.demand := by unfold State.updateThermal; rfl
@[simp] theorem State.updateThermal_monitors (shares : Vector Nat 3) (v dt : Nat) (ambient : Int) : (s.updateThermal shares v dt ambient).monitors = s.monitors := by unfold State.updateThermal; rfl
@[simp] theorem State.updateThermal_arbiter (shares : Vector Nat 3) (v dt : Nat) (ambient : Int) : (s.updateThermal shares v dt ambient).arbiter = s.arbiter := by unfold State.updateThermal; rfl
@[simp] theorem State.updateThermal_intake (shares : Vector Nat 3) (v dt : Nat) (ambient : Int) : (s.updateThermal shares v dt ambient).intake = s.intake := by unfold State.updateThermal; rfl
@[simp] theorem State.updateThermal_health (shares : Vector Nat 3) (v dt : Nat) (ambient : Int) : (s.updateThermal shares v dt ambient).health = s.health := by unfold State.updateThermal; rfl
@[simp] theorem State.updateThermal_settings (shares : Vector Nat 3) (v dt : Nat) (ambient : Int) : (s.updateThermal shares v dt ambient).settings = s.settings := by unfold State.updateThermal; rfl
@[simp] theorem State.updateThermal_app (shares : Vector Nat 3) (v dt : Nat) (ambient : Int) : (s.updateThermal shares v dt ambient).app = s.app := by unfold State.updateThermal; rfl
@[simp] theorem State.updateThermal_pass (shares : Vector Nat 3) (v dt : Nat) (ambient : Int) : (s.updateThermal shares v dt ambient).pass = s.pass := by unfold State.updateThermal; rfl
@[simp] theorem State.updateThermal_chassisTx (shares : Vector Nat 3) (v dt : Nat) (ambient : Int) : (s.updateThermal shares v dt ambient).chassisTx = s.chassisTx := by unfold State.updateThermal; rfl
@[simp] theorem State.updateThermal_duty (shares : Vector Nat 3) (v dt : Nat) (ambient : Int) : (s.updateThermal shares v dt ambient).duty = s.duty := by unfold State.updateThermal; rfl
@[simp] theorem State.updateThermal_ctl (shares : Vector Nat 3) (v dt : Nat) (ambient : Int) : (s.updateThermal shares v dt ambient).ctl = s.ctl := by unfold State.updateThermal; rfl
@[simp] theorem State.updateThermal_port (shares : Vector Nat 3) (v dt : Nat) (ambient : Int) : (s.updateThermal shares v dt ambient).port = s.port := by unfold State.updateThermal; rfl
@[simp] theorem State.updateThermal_freeCount (shares : Vector Nat 3) (v dt : Nat) (ambient : Int) : (s.updateThermal shares v dt ambient).freeCount = s.freeCount := by unfold State.updateThermal; rfl

/-! `takeUpdates` changes `demand`, `accounts`, `duty`. -/

@[simp] theorem State.takeUpdates_pending (p : Pass) (f : Figures) : (s.takeUpdates p f).pending = s.pending := by simp [State.takeUpdates]
@[simp] theorem State.takeUpdates_inReset (p : Pass) (f : Figures) : (s.takeUpdates p f).inReset = s.inReset := by simp [State.takeUpdates]
@[simp] theorem State.takeUpdates_vehicleTx (p : Pass) (f : Figures) : (s.takeUpdates p f).vehicleTx = s.vehicleTx := by simp [State.takeUpdates]
@[simp] theorem State.takeUpdates_latches (p : Pass) (f : Figures) : (s.takeUpdates p f).latches = s.latches := by simp [State.takeUpdates]
@[simp] theorem State.takeUpdates_monitors (p : Pass) (f : Figures) : (s.takeUpdates p f).monitors = s.monitors := by simp [State.takeUpdates]
@[simp] theorem State.takeUpdates_arbiter (p : Pass) (f : Figures) : (s.takeUpdates p f).arbiter = s.arbiter := by simp [State.takeUpdates]
@[simp] theorem State.takeUpdates_intake (p : Pass) (f : Figures) : (s.takeUpdates p f).intake = s.intake := by simp [State.takeUpdates]
@[simp] theorem State.takeUpdates_health (p : Pass) (f : Figures) : (s.takeUpdates p f).health = s.health := by simp [State.takeUpdates]
@[simp] theorem State.takeUpdates_settings (p : Pass) (f : Figures) : (s.takeUpdates p f).settings = s.settings := by simp [State.takeUpdates]
@[simp] theorem State.takeUpdates_app (p : Pass) (f : Figures) : (s.takeUpdates p f).app = s.app := by simp [State.takeUpdates]
@[simp] theorem State.takeUpdates_pass (p : Pass) (f : Figures) : (s.takeUpdates p f).pass = s.pass := by simp [State.takeUpdates]
@[simp] theorem State.takeUpdates_chassisTx (p : Pass) (f : Figures) : (s.takeUpdates p f).chassisTx = s.chassisTx := by simp [State.takeUpdates]
@[simp] theorem State.takeUpdates_ctl (p : Pass) (f : Figures) : (s.takeUpdates p f).ctl = s.ctl := by simp [State.takeUpdates]
@[simp] theorem State.takeUpdates_port (p : Pass) (f : Figures) : (s.takeUpdates p f).port = s.port := by simp [State.takeUpdates]
@[simp] theorem State.takeUpdates_freeCount (p : Pass) (f : Figures) : (s.takeUpdates p f).freeCount = s.freeCount := by simp [State.takeUpdates]

/-! `statusExpires` changes `health`. -/

@[simp] theorem State.statusExpires_pending (x : HealthSource) : (s.statusExpires x).pending = s.pending := rfl
@[simp] theorem State.statusExpires_inReset (x : HealthSource) : (s.statusExpires x).inReset = s.inReset := rfl
@[simp] theorem State.statusExpires_vehicleTx (x : HealthSource) : (s.statusExpires x).vehicleTx = s.vehicleTx := rfl
@[simp] theorem State.statusExpires_latches (x : HealthSource) : (s.statusExpires x).latches = s.latches := rfl
@[simp] theorem State.statusExpires_demand (x : HealthSource) : (s.statusExpires x).demand = s.demand := rfl
@[simp] theorem State.statusExpires_monitors (x : HealthSource) : (s.statusExpires x).monitors = s.monitors := rfl
@[simp] theorem State.statusExpires_arbiter (x : HealthSource) : (s.statusExpires x).arbiter = s.arbiter := rfl
@[simp] theorem State.statusExpires_intake (x : HealthSource) : (s.statusExpires x).intake = s.intake := rfl
@[simp] theorem State.statusExpires_settings (x : HealthSource) : (s.statusExpires x).settings = s.settings := rfl
@[simp] theorem State.statusExpires_app (x : HealthSource) : (s.statusExpires x).app = s.app := rfl
@[simp] theorem State.statusExpires_pass (x : HealthSource) : (s.statusExpires x).pass = s.pass := rfl
@[simp] theorem State.statusExpires_chassisTx (x : HealthSource) : (s.statusExpires x).chassisTx = s.chassisTx := rfl
@[simp] theorem State.statusExpires_accounts (x : HealthSource) : (s.statusExpires x).accounts = s.accounts := rfl
@[simp] theorem State.statusExpires_duty (x : HealthSource) : (s.statusExpires x).duty = s.duty := rfl
@[simp] theorem State.statusExpires_ctl (x : HealthSource) : (s.statusExpires x).ctl = s.ctl := rfl
@[simp] theorem State.statusExpires_port (x : HealthSource) : (s.statusExpires x).port = s.port := rfl
@[simp] theorem State.statusExpires_freeCount (x : HealthSource) : (s.statusExpires x).freeCount = s.freeCount := rfl

/-! `lossHoldExpires` changes `ctl`. -/

@[simp] theorem State.lossHoldExpires_pending : (s.lossHoldExpires).pending = s.pending := rfl
@[simp] theorem State.lossHoldExpires_inReset : (s.lossHoldExpires).inReset = s.inReset := rfl
@[simp] theorem State.lossHoldExpires_vehicleTx : (s.lossHoldExpires).vehicleTx = s.vehicleTx := rfl
@[simp] theorem State.lossHoldExpires_latches : (s.lossHoldExpires).latches = s.latches := rfl
@[simp] theorem State.lossHoldExpires_demand : (s.lossHoldExpires).demand = s.demand := rfl
@[simp] theorem State.lossHoldExpires_monitors : (s.lossHoldExpires).monitors = s.monitors := rfl
@[simp] theorem State.lossHoldExpires_arbiter : (s.lossHoldExpires).arbiter = s.arbiter := rfl
@[simp] theorem State.lossHoldExpires_intake : (s.lossHoldExpires).intake = s.intake := rfl
@[simp] theorem State.lossHoldExpires_health : (s.lossHoldExpires).health = s.health := rfl
@[simp] theorem State.lossHoldExpires_settings : (s.lossHoldExpires).settings = s.settings := rfl
@[simp] theorem State.lossHoldExpires_app : (s.lossHoldExpires).app = s.app := rfl
@[simp] theorem State.lossHoldExpires_pass : (s.lossHoldExpires).pass = s.pass := rfl
@[simp] theorem State.lossHoldExpires_chassisTx : (s.lossHoldExpires).chassisTx = s.chassisTx := rfl
@[simp] theorem State.lossHoldExpires_accounts : (s.lossHoldExpires).accounts = s.accounts := rfl
@[simp] theorem State.lossHoldExpires_duty : (s.lossHoldExpires).duty = s.duty := rfl
@[simp] theorem State.lossHoldExpires_port : (s.lossHoldExpires).port = s.port := rfl
@[simp] theorem State.lossHoldExpires_freeCount : (s.lossHoldExpires).freeCount = s.freeCount := rfl

/-! `runAccepted` changes `intake`, `health`, `app`, `accounts`, `duty`, `ctl`. -/

@[simp] theorem State.runAccepted_pending : (s.runAccepted).pending = s.pending := rfl
@[simp] theorem State.runAccepted_inReset : (s.runAccepted).inReset = s.inReset := rfl
@[simp] theorem State.runAccepted_vehicleTx : (s.runAccepted).vehicleTx = s.vehicleTx := rfl
@[simp] theorem State.runAccepted_latches : (s.runAccepted).latches = s.latches := rfl
@[simp] theorem State.runAccepted_demand : (s.runAccepted).demand = s.demand := rfl
@[simp] theorem State.runAccepted_monitors : (s.runAccepted).monitors = s.monitors := rfl
@[simp] theorem State.runAccepted_arbiter : (s.runAccepted).arbiter = s.arbiter := rfl
@[simp] theorem State.runAccepted_settings : (s.runAccepted).settings = s.settings := rfl
@[simp] theorem State.runAccepted_pass : (s.runAccepted).pass = s.pass := rfl
@[simp] theorem State.runAccepted_chassisTx : (s.runAccepted).chassisTx = s.chassisTx := rfl
@[simp] theorem State.runAccepted_port : (s.runAccepted).port = s.port := rfl
@[simp] theorem State.runAccepted_freeCount : (s.runAccepted).freeCount = s.freeCount := rfl

/-! `enterSetup` changes `latches`, `intake`, `health`, `app`, `pass`, `chassisTx`, `duty`, `ctl`. -/

@[simp] theorem State.enterSetup_pending : (s.enterSetup).pending = s.pending := rfl
@[simp] theorem State.enterSetup_inReset : (s.enterSetup).inReset = s.inReset := rfl
@[simp] theorem State.enterSetup_vehicleTx : (s.enterSetup).vehicleTx = s.vehicleTx := rfl
@[simp] theorem State.enterSetup_demand : (s.enterSetup).demand = s.demand := rfl
@[simp] theorem State.enterSetup_monitors : (s.enterSetup).monitors = s.monitors := rfl
@[simp] theorem State.enterSetup_arbiter : (s.enterSetup).arbiter = s.arbiter := rfl
@[simp] theorem State.enterSetup_settings : (s.enterSetup).settings = s.settings := rfl
@[simp] theorem State.enterSetup_accounts : (s.enterSetup).accounts = s.accounts := rfl
@[simp] theorem State.enterSetup_port : (s.enterSetup).port = s.port := rfl
@[simp] theorem State.enterSetup_freeCount : (s.enterSetup).freeCount = s.freeCount := rfl

end Sys2Proof.Machine
end

