-- ==== Sys2Proof/Laws/Ops.lean ====
section
/-! SUPPORT. What each shared operation does, said once: proofs cite these and do not unfold the operation. -/

namespace Sys2Proof.Machine
open Sys2Proof.Claims

variable (s : State)

/-! ## Outside and during a reset -/

@[simp] theorem State.outsideReset_running (f : State → State) (h : s.inReset = false) : s.outsideReset f = .next (f s) := by
  simp [State.outsideReset, h]

@[simp] theorem State.outsideReset_inReset (f : State → State) (h : s.inReset = true) : s.outsideReset f = .next s := by
  simp [State.outsideReset, h]

/-! ## Slots and records -/

@[simp] theorem State.putSlot_slot (i j : SlotId) (x : Slot) :
    (s.putSlot i x).slot j = if i = j then x else s.slot j := by
  by_cases h : i = j
  · subst h; simp [State.slot, State.putSlot]
  · have h' : ¬ (i : ℕ) = (j : ℕ) := fun e => h (Fin.ext e)
    simp [State.slot, State.putSlot, h, h']

@[simp] theorem State.putSlot_record (i j : SlotId) (x : Slot) :
    (s.putSlot i x).record j = if i = j then x.record else s.record j := by
  unfold State.record; rw [State.putSlot_slot]; split <;> rfl

@[simp] theorem State.mapSlots_slot (f : Slot → Slot) (j : SlotId) : (s.mapSlots f).slot j = f (s.slot j) := by
  simp [State.slot, State.mapSlots]

@[simp] theorem State.mapSlots_age (f : Slot → Slot) : (s.mapSlots f).demand.age = s.demand.age := by
  unfold State.mapSlots; rfl

@[simp] theorem State.putSlot_age (i : SlotId) (x : Slot) : (s.putSlot i x).demand.age = s.demand.age := rfl

theorem Slot.enter_eq_becomes (x : Slot) (st : RecState) : x.enter st = becomes x st := rfl

@[simp] theorem State.enterState_slot (i j : SlotId) (st : RecState) :
    (s.enterState i st).slot j = if i = j then becomes (s.slot i) st else s.slot j := by
  unfold State.enterState; rw [State.putSlot_slot]; rfl

@[simp] theorem State.enterState_age (i : SlotId) (st : RecState) : (s.enterState i st).demand.age = s.demand.age := rfl

/-- The lowest slot that satisfies p satisfies it, and no lower one does. -/
theorem lowestSlot_some {p : SlotId → Bool} {i : SlotId} (h : lowestSlot p = some i) :
    p i = true ∧ ∀ j < i, p j = false := by
  unfold lowestSlot at h
  rw [List.find?_eq_some_iff_getElem] at h
  obtain ⟨hp, k, hk, hi, hlt⟩ := h
  refine ⟨hp, fun j hj => ?_⟩
  have hki : k = i.val := by rw [← hi]; simp
  have := hlt j.val (by rw [hki]; exact hj)
  simpa using this

theorem lowestSlot_none {p : SlotId → Bool} : lowestSlot p = none ↔ ∀ i, p i = false := by
  simp [lowestSlot, List.find?_eq_none]

/-- The slot a handle finds holds a record of that owner and handle (R27). -/
theorem State.findHandle_some {n : Node} {h : Fin 4} {i : SlotId} (e : s.findHandle n h = some i) :
    ∃ r, s.record i = some r ∧ r.owner = n ∧ r.handle = h := by
  have := (lowestSlot_some e).1
  rcases hr : s.record i with _ | r
  · simp [hr] at this
  · simp [hr] at this; exact ⟨r, rfl, this⟩

/-- The model's and the statements' handle lookups agree. -/
theorem State.findHandle_eq_handleSlot (n : Node) (h : Fin 4) (hf : HandleField) (e : hf.val = h.val) :
    s.findHandle n h = handleSlot s n hf := by
  unfold State.findHandle lowestSlot handleSlot
  congr 1
  funext i
  rcases s.record i with _ | r
  · rfl
  · simp [Fin.ext_iff, e, Bool.beq_eq_decide_eq]

/-! ## Freeing and creating -/

@[simp] theorem State.freeSlot_slot (i j : SlotId) :
    (s.freeSlot i).slot j = if i = j then { s.slot i with record := none, countdown := none, mark := false } else s.slot j := by
  exact s.putSlot_slot i j _

@[simp] theorem State.freeSlot_age (i : SlotId) : (s.freeSlot i).demand.age = s.demand.age.erase i := rfl

@[simp] theorem State.createRecord_slot (i j : SlotId) (r : Record) :
    (s.createRecord i r).slot j =
      if i = j then
        { record := some r, version := (s.slot i).version + 1, countdown := some (10 * r.leasePeriod), mark := false }
      else s.slot j := by
  exact s.putSlot_slot i j _

@[simp] theorem State.createRecord_age (i : SlotId) (r : Record) :
    (s.createRecord i r).demand.age = s.demand.age ++ [i] := rfl

/-! ## Monitors and latches -/

theorem State.clearMonitorsOf_eq (i : SlotId) : s.clearMonitorsOf i = { s with monitors := monitorsWithout s.monitors [i] } := by
  simp [State.clearMonitorsOf, monitorsWithout]

theorem State.emptyLatch_eq (n : Node) :
    s.emptyLatch n = { s with latches := s.latches.set n { quals := [], hold := none } } := rfl

/-! ## The arbiter -/

theorem Slot.suppress_eq (x : Slot) : x.suppress = realigned false true x := by
  rcases hx : x.record with _ | r
  · simp [Slot.suppress, realigned, hx]
  · rcases hc : r.cls <;> rcases hs : r.state <;>
      simp [Slot.suppress, realigned, hx, hc, hs, RecClass.heldColumn, Slot.enter, becomes]

theorem Slot.unsuppress_eq (x : Slot) : x.unsuppress = realigned true false x := by
  rcases hx : x.record with _ | r
  · simp [Slot.unsuppress, realigned, hx]
  · rcases hs : r.state <;> simp [Slot.unsuppress, realigned, hx, hs, Slot.enter, becomes]

theorem realigned_same (b : Bool) (x : Slot) : realigned b b x = x := by
  rcases hx : x.record with _ | r <;> cases b <;> simp [realigned, hx]

/-- Bringing suppression into line sets the flag to whether the list holds a COLLISION record, and moves the HELD column with
it (R61). -/
theorem State.alignSuppression_arbiter :
    s.alignSuppression.arbiter
      = { s.arbiter with suppression := holdsCollision s.demand.slots s.arbiter.listed } := by
  unfold State.alignSuppression; dsimp only; split
  · simp
  · split <;> simp

theorem State.alignSuppression_slot (j : SlotId) :
    s.alignSuppression.slot j
      = realigned s.arbiter.suppression (holdsCollision s.demand.slots s.arbiter.listed) (s.slot j) := by
  unfold State.alignSuppression; dsimp only
  generalize holdsCollision s.demand.slots s.arbiter.listed = now
  generalize h : s.arbiter.suppression = old
  cases now <;> cases old <;> simp [Slot.suppress_eq, Slot.unsuppress_eq, realigned_same] <;> rfl

/-- Bringing suppression into line changes the slots and the flag alone. -/
theorem State.alignSuppression_frame :
    s.alignSuppression = { s with
      demand := { s.demand with slots := s.alignSuppression.demand.slots }, arbiter := s.alignSuppression.arbiter } := by
  unfold State.alignSuppression State.mapSlots; dsimp only; split
  · rfl
  · split <;> rfl

/-- The admission test changes the slots and the arbiter's structures alone (R5, R58). -/
theorem State.admissionTest_frame (i : SlotId) :
    s.admissionTest i = { s with
      demand := { s.demand with slots := (s.admissionTest i).demand.slots }, arbiter := (s.admissionTest i).arbiter } := by
  unfold State.admissionTest; split
  · rfl
  · split
    · split
      · dsimp only; rw [State.alignSuppression_frame]; rfl
      · rfl
    · split <;> rfl

/-- A departure changes the slots and the arbiter's structures alone (R59). -/
theorem State.depart_frame (i : SlotId) :
    s.depart i = { s with
      demand := { s.demand with slots := (s.depart i).demand.slots }, arbiter := (s.depart i).arbiter } := by
  unfold State.depart; split
  · split <;> (rw [State.alignSuppression_frame]; try rfl)
  · rfl

/-! ## The life of a record -/

/-- An amendment changes the slot of its record and the monitors that name it (R7, R20). -/
theorem State.amendSlot_frame (i : SlotId) (x : Carried) (quals : List Qualifier) :
    s.amendSlot i x quals = { s with
      demand := { s.demand with slots := (s.amendSlot i x quals).demand.slots }
      monitors := (s.amendSlot i x quals).monitors } := by
  unfold State.amendSlot; split
  · rfl
  · dsimp only; split <;> rfl

/-- A renewal changes the slot of its record alone (R16). -/
theorem State.renewSlot_frame (i : SlotId) :
    s.renewSlot i = { s with demand := { s.demand with slots := (s.renewSlot i).demand.slots } } := by
  unfold State.renewSlot; split <;> rfl

/-- A qualifier sets one content field: the fields that no qualifier names stand (R46). -/
theorem Record.qualified_fixed (r : Record) (q : Qualifier) :
    (r.qualified q).owner = r.owner ∧ (r.qualified q).handle = r.handle ∧ (r.qualified q).cls = r.cls
    ∧ (r.qualified q).shared = r.shared ∧ (r.qualified q).state = r.state ∧ (r.qualified q).force = r.force
    ∧ (r.qualified q).limit = r.limit ∧ (r.qualified q).leasePeriod = r.leasePeriod
    ∧ (r.qualified q).nextLease = r.nextLease ∧ (r.qualified q).cover = r.cover := by
  unfold Record.qualified; split <;> simp

/-! ## The queue and the transmit slots -/

theorem State.enqueue_eq (frames : List VehicleFrame) :
    s.enqueue frames = { s with vehicleTx := joined s.vehicleTx frames } := by
  unfold State.enqueue joined; split <;> rfl

theorem State.answer_eq (k : MsgKind) (n : Node) (hf : HandleField) (r : Reply) :
    s.answer k n hf r = { s with vehicleTx := joined s.vehicleTx [s.answerFrame k n hf r] } := s.enqueue_eq _

/-- A queue within its 16 places stays within them (R50). -/
theorem joined_length (q frames : List VehicleFrame) (h : q.length ≤ 16) : (joined q frames).length ≤ 16 := by
  unfold joined; split <;> simp_all

/-- A replaced pair leaves the length of the queue. -/
theorem replacePair_length (a b : VehicleFrame) :
    ∀ (l m : List VehicleFrame), replacePair a b l = some m → m.length = l.length
  | [], _, h => by simp [replacePair] at h
  | [_], _, h => by simp [replacePair] at h
  | x :: y :: rest, m, h => by
    unfold replacePair at h
    split at h
    · simp at h; simp [← h]
    · simp only [Option.map_eq_some_iff] at h
      obtain ⟨m', hm, rfl⟩ := h
      simp [replacePair_length a b _ _ hm]

/-- Placing a summary pair changes the queue alone (R52). -/
theorem State.placeSummary_frame (a b : VehicleFrame) :
    s.placeSummary a b = { s with vehicleTx := (s.placeSummary a b).vehicleTx } := by
  unfold State.placeSummary; split
  · rw [State.enqueue_eq]
  · split
    · rfl
    · rw [State.enqueue_eq]

theorem State.placeSummary_length (a b : VehicleFrame) (h : s.vehicleTx.length ≤ 16) :
    (s.placeSummary a b).vehicleTx.length ≤ 16 := by
  unfold State.placeSummary; split
  · rw [State.enqueue_eq]; exact joined_length _ _ h
  next head rest hq =>
    split
    next rest' hr =>
      have := replacePair_length a b _ _ hr
      simp_all
    · rw [State.enqueue_eq]; exact joined_length _ _ h

/-- Asking the link changes what is known of it alone (R124, log entry 6). -/
theorem State.settleOnAir_frame :
    s.settleOnAir = { s with chassisTx := s.settleOnAir.chassisTx, freeCount := s.settleOnAir.freeCount } := by
  unfold State.settleOnAir; split <;> rfl

/-- A frame sent on the chassis link changes the transmit slots alone (R124). -/
theorem State.chassisSent_frame :
    s.chassisSent = { s with chassisTx := s.chassisSent.chassisTx, freeCount := s.chassisSent.freeCount } := by
  unfold State.chassisSent; split <;> rfl

/-- The lowest kind offered is the first whose slot is filled. -/
theorem ChassisTx.lowestOffered_some {c : ChassisTx} {k : Fin 4} (h : c.lowestOffered = some k) : firstOffered c k := by
  unfold ChassisTx.lowestOffered at h
  rw [List.find?_eq_some_iff_getElem] at h
  obtain ⟨hp, i, hi, hk, hlt⟩ := h
  refine ⟨by simpa [Option.isSome_iff_ne_none] using hp, fun j hj => ?_⟩
  have hik : i = k.val := by rw [← hk]; simp
  simpa using hlt j.val (by rw [hik]; exact hj)

/-- What the link may have done: the frame on it stands, or the lowest kind offered has begun, or none is on it. -/
theorem ChassisTx.settled_cases (c : ChassisTx) (k : Fin 4) (lost begun : Bool) :
    c.settled k lost begun = c
    ∨ c.settled k lost begun = { c with onAir := none }
    ∨ c.settled k lost begun = { slots := c.slots.set k { c.slots[k] with begun := true }, onAir := some k } := by
  rcases c with ⟨slots, _ | air⟩ <;> cases lost <;> cases begun <;> simp [ChassisTx.settled, ChassisTx.stillOnAir]

/-- A hand-over to the slot of kind k leaves the other slots and the frame on the link. -/
theorem ChassisTx.handOver_slots (c : ChassisTx) (k j : Fin 4) (f : ChassisFrame) :
    (c.handOver k f).slots[j] =
      if k = j then
        if c.slots[k].begun = true then { c.slots[k] with behind := some f } else { c.slots[k] with front := some f }
      else c.slots[j] := by
  by_cases h : k = j
  · subst h; simp [ChassisTx.handOver]
  · have h' : ¬ (k : ℕ) = (j : ℕ) := fun e => h (Fin.ext e)
    simp [ChassisTx.handOver, h, h']

@[simp] theorem ChassisTx.handOver_onAir (c : ChassisTx) (k : Fin 4) (f : ChassisFrame) : (c.handOver k f).onAir = c.onAir := rfl

/-- The frame sent is the one on the link or the first offered (R124). -/
theorem ChassisTx.sent_cases (c : ChassisTx) (lost : Bool) {j : Fin 4} (h : c.lowestOffered = some j) :
    ∃ k, (k = j ∨ c.onAir = some k) ∧
      c.sent lost = { slots := c.slots.set k { front := c.slots[k].behind, begun := false, behind := none }, onAir := none } := by
  rcases ha : c.onAir with _ | k <;> cases lost <;> simp [ChassisTx.sent, ChassisTx.stillOnAir, ha, h]

/-! ## Health -/

@[simp] theorem HealthMonitor.put_entry (h : HealthMonitor) (x y : HealthSource) (e : HealthEntry) :
    (h.put x e).entry y = if x = y then e else h.entry y := by
  cases x <;> cases y <;> simp [HealthMonitor.put, HealthMonitor.entry]
  next j k =>
    by_cases hj : j = k
    · subst hj; simp
    · have h' : ¬ (j : ℕ) = (k : ℕ) := fun e => hj (Fin.ext e)
      simp [hj, h']

/-- Handing over the set-point frames changes the chassis transmit slots and the count of free values alone (R124). -/
theorem State.handSetPoints_frame :
    s.handSetPoints = { s with chassisTx := s.handSetPoints.chassisTx, freeCount := s.handSetPoints.freeCount } := by
  unfold State.handSetPoints State.settleOnAir
  split <;> rfl

/-! ## A pass in flight -/

/-- The figures of a pass read the apportioner's state in the commanded total, the residue and the direction alone. -/
theorem Pass.figures_congr (p : Pass) (t : Settings) {x y : Apportioner} (total : x.fcmd = y.fcmd) (residue : x.rho = y.rho)
    (direction : x.dir = y.dir) : p.figures t x = p.figures t y := by
  simp [Pass.figures, Pass.total, total, residue, direction]

/-- A missed period changes the mode controller, the last set-points, the queues and the count of free values alone: no pass in
flight, no setting, and of the apportioner's state nothing that a pass reads (R81, R153, R154). -/
theorem State.missedPeriod_frame :
    let t := s.missedPeriod
    t = { s with
      app := { s.app with last := t.app.last }, ctl := t.ctl, chassisTx := t.chassisTx, vehicleTx := t.vehicleTx
      freeCount := t.freeCount } := by
  unfold State.missedPeriod
  split
  · rfl
  · rfl
  · rfl
  · dsimp only [State.reissue]; rw [State.handSetPoints_frame]; rfl
  · dsimp only [State.reissue]; rw [State.handSetPoints_frame]; rfl
  · dsimp only [State.fallback, State.handSummary]
    rw [State.placeSummary_frame, State.handSetPoints_frame]
    rfl

/-! ## The mode controller -/

/-- The report of a pass changes the mode controller as R149, R151 and R158 say, and nothing else. -/
theorem State.reportPass_eq : s.reportPass = { s with ctl := ctlAfterReport s.ctl } := by
  rcases s with ⟨_, _, _, _, _, _, _, _, _, _, _, _, _, _, _, ⟨m, v, c, r, l, g, f⟩, _, _⟩
  cases m <;> simp [State.reportPass, ctlAfterReport, State.setMode, Mode.assertsFallback] <;> split <;> simp_all <;> omega

end Sys2Proof.Machine
end

