-- ==== Sys2Proof/WellFormed.lean ====
section
/-! DEFINITION. Which terms of Instr are commands the part can be sent. -/

namespace Sys2Proof

/-- A frame a CAN link can carry: at most 8 data bytes, an 11-bit identifier unless extended. -/
def CanFrame.wellFormed (f : CanFrame) : Bool :=
  f.data.length ≤ 8 && (f.extended || f.id.toNat < 2048)

/-- A command as its row of the table describes it: a data field of at most 8 bytes; the length of the form for an AMEND
(R29); an ignored chassis frame is one R181 does not hand on; a transfer refused on its form fails a form test (R160); an
unknown command names neither RUN nor SETUP (R166). Whether a vehicle frame is ignored depends on the protocol tag in
force, and is not judged here. -/
def Instr.wellFormed : Instr → Bool
  | .openRecord _ _ data => data.length ≤ 8
  | .amendCompact _ _ data => data.length ≤ 4
  | .amendFull _ _ data => 5 ≤ data.length && data.length ≤ 8
  | .amendIf _ _ data => data.length ≤ 8
  | .renew _ _ data => data.length ≤ 8
  | .release _ _ data => data.length ≤ 8
  | .query _ _ data => data.length ≤ 8
  | .reserve _ _ data => data.length ≤ 8
  | .qualify _ _ data => data.length ≤ 8
  | .vehicleFrameIgnored frame => frame.wellFormed
  | .leaseExpiry _ => true
  | .graceExpiry _ => true
  | .qualifierHoldExpiry _ => true
  | .sampleFrameA _ _ _ _ => true
  | .sampleFrameB _ _ _ _ _ _ => true
  | .healthFrame _ _ => true
  | .chassisFrameIgnored frame => frame.wellFormed && (decodeChassisFrame frame).isNone
  | .sampleTimerExpiry => true
  | .statusTimerExpiry _ => true
  | .lossHoldExpiry => true
  | .passEnd => true
  | .vehicleFrameSent => true
  | .chassisFrameSent => true
  | .powerOn => true
  | .lineReset => true
  | .supplyDip => true
  | .resetEnd => true
  | .select _ => true
  | .read _ => true
  | .write _ => true
  | .run => true
  | .setup => true
  | .transferRefusedOnForm bytes => match decodeTransfer bytes with | .error _ => true | .ok _ => false
  | .unknownCommand code => code != 1 && code != 2

end Sys2Proof
end

