-- ==== Sys2Proof/Laws/PerInstr.lean ====
section
/-! SUPPORT. What well-formedness says of each command: the family WellFormedShape. -/

namespace Sys2Proof.Laws.WellFormedShape

/-- What a well-formed command's operands satisfy, read from its row of the table: data fields of at most 8 bytes, the AMEND
forms by length (R29), frames and transfers that are in truth ignored or refused (R160, R166, R181). -/
def Statement (i : Instr) : Prop :=
  i.wellFormed = true ↔
    match i with
    | .openRecord _ _ data => data.length ≤ 8
    | .amendCompact _ _ data => data.length ≤ 4
    | .amendFull _ _ data => 5 ≤ data.length ∧ data.length ≤ 8
    | .amendIf _ _ data => data.length ≤ 8
    | .renew _ _ data => data.length ≤ 8
    | .release _ _ data => data.length ≤ 8
    | .query _ _ data => data.length ≤ 8
    | .reserve _ _ data => data.length ≤ 8
    | .qualify _ _ data => data.length ≤ 8
    | .vehicleFrameIgnored frame => frame.wellFormed = true
    | .leaseExpiry _ => True
    | .graceExpiry _ => True
    | .qualifierHoldExpiry _ => True
    | .sampleFrameA _ _ _ _ => True
    | .sampleFrameB _ _ _ _ _ _ => True
    | .healthFrame _ _ => True
    | .chassisFrameIgnored frame => frame.wellFormed = true ∧ decodeChassisFrame frame = none
    | .sampleTimerExpiry => True
    | .statusTimerExpiry _ => True
    | .lossHoldExpiry => True
    | .passEnd => True
    | .vehicleFrameSent => True
    | .chassisFrameSent => True
    | .powerOn => True
    | .lineReset => True
    | .supplyDip => True
    | .resetEnd => True
    | .select _ => True
    | .read _ => True
    | .write _ => True
    | .run => True
    | .setup => True
    | .transferRefusedOnForm bytes => ∃ e, decodeTransfer bytes = .error e
    | .unknownCommand code => code ≠ 1 ∧ code ≠ 2

theorem openRecord (node : Node) (handle : HandleField) (data : List Byte) : Statement (.openRecord node handle data) := by
  simp [Statement, Instr.wellFormed]

theorem amendCompact (node : Node) (handle : HandleField) (data : List Byte) : Statement (.amendCompact node handle data) := by
  simp [Statement, Instr.wellFormed]

theorem amendFull (node : Node) (handle : HandleField) (data : List Byte) : Statement (.amendFull node handle data) := by
  simp [Statement, Instr.wellFormed]

theorem amendIf (node : Node) (handle : HandleField) (data : List Byte) : Statement (.amendIf node handle data) := by
  simp [Statement, Instr.wellFormed]

theorem renew (node : Node) (handle : HandleField) (data : List Byte) : Statement (.renew node handle data) := by
  simp [Statement, Instr.wellFormed]

theorem release (node : Node) (handle : HandleField) (data : List Byte) : Statement (.release node handle data) := by
  simp [Statement, Instr.wellFormed]

theorem query (node : Node) (handle : HandleField) (data : List Byte) : Statement (.query node handle data) := by
  simp [Statement, Instr.wellFormed]

theorem reserve (node : Node) (handle : HandleField) (data : List Byte) : Statement (.reserve node handle data) := by
  simp [Statement, Instr.wellFormed]

theorem qualify (node : Node) (handle : HandleField) (data : List Byte) : Statement (.qualify node handle data) := by
  simp [Statement, Instr.wellFormed]

theorem vehicleFrameIgnored (frame : CanFrame) : Statement (.vehicleFrameIgnored frame) := by
  simp [Statement, Instr.wellFormed]

theorem leaseExpiry (slot : SlotId) : Statement (.leaseExpiry slot) := by
  simp [Statement, Instr.wellFormed]

theorem graceExpiry (slot : SlotId) : Statement (.graceExpiry slot) := by
  simp [Statement, Instr.wellFormed]

theorem qualifierHoldExpiry (node : Node) : Statement (.qualifierHoldExpiry node) := by
  simp [Statement, Instr.wellFormed]

theorem sampleFrameA (ts v n ratio : Half) : Statement (.sampleFrameA ts v n ratio) := by
  simp [Statement, Instr.wellFormed]

theorem sampleFrameB (ts : Half) (oil ambient load0 load1 load2 : Byte) : Statement (.sampleFrameB ts oil ambient load0 load1 load2) := by
  simp [Statement, Instr.wellFormed]

theorem healthFrame (actuator code : Byte) : Statement (.healthFrame actuator code) := by
  simp [Statement, Instr.wellFormed]

theorem chassisFrameIgnored (frame : CanFrame) : Statement (.chassisFrameIgnored frame) := by
  simp [Statement, Instr.wellFormed]

theorem sampleTimerExpiry : Statement .sampleTimerExpiry := by
  simp [Statement, Instr.wellFormed]

theorem statusTimerExpiry (source : HealthSource) : Statement (.statusTimerExpiry source) := by
  simp [Statement, Instr.wellFormed]

theorem lossHoldExpiry : Statement .lossHoldExpiry := by
  simp [Statement, Instr.wellFormed]

theorem passEnd : Statement .passEnd := by
  simp [Statement, Instr.wellFormed]

theorem vehicleFrameSent : Statement .vehicleFrameSent := by
  simp [Statement, Instr.wellFormed]

theorem chassisFrameSent : Statement .chassisFrameSent := by
  simp [Statement, Instr.wellFormed]

theorem powerOn : Statement .powerOn := by
  simp [Statement, Instr.wellFormed]

theorem lineReset : Statement .lineReset := by
  simp [Statement, Instr.wellFormed]

theorem supplyDip : Statement .supplyDip := by
  simp [Statement, Instr.wellFormed]

theorem resetEnd : Statement .resetEnd := by
  simp [Statement, Instr.wellFormed]

theorem select (index : Half) : Statement (.select index) := by
  simp [Statement, Instr.wellFormed]

theorem read (data : Half) : Statement (.read data) := by
  simp [Statement, Instr.wellFormed]

theorem write (value : Half) : Statement (.write value) := by
  simp [Statement, Instr.wellFormed]

theorem run : Statement .run := by
  simp [Statement, Instr.wellFormed]

theorem setup : Statement .setup := by
  simp [Statement, Instr.wellFormed]

theorem transferRefusedOnForm (bytes : List Byte) : Statement (.transferRefusedOnForm bytes) := by
  simp only [Statement, Instr.wellFormed]; split <;> simp_all

theorem unknownCommand (code : Half) : Statement (.unknownCommand code) := by
  simp [Statement, Instr.wellFormed]

end Sys2Proof.Laws.WellFormedShape
end

