-- ==== Sys2Proof/Tests/Slice0.lean ====
section
/-! SUPPORT. Tests against the figures of the spec, the smoke test of WellFormed, and for every statement with hypotheses a
witness that meets them. Expected results stand in the spec, at the place each comment names. -/

namespace Sys2Proof.Tests
open Sys2Proof Machine Claims

set_option maxRecDepth 8000
set_option Elab.async false

/-! ## Small states -/

/-- The state after a command; no command stops the part. -/
def after (c : Instr) (s : State) : State :=
  match exec c s with
  | .next t => t
  | .fault _ => s
  | .refused _ => s

/-- A table of 17 points. -/
def points (l : List Half) : Vector Half 17 := Vector.ofFn fun k => l.getD k 0

/-- The coach of chapter 11. -/
def coach : Settings :=
  { powerOnSettings with
    axleCount := 3, gain := #v[125, 140, 100], pmax := #v[850, 850, 850], split := #v[30, 45, 25]
    retPitch := 1, exhPitch := 1, cth := #v[400, 450, 400], lossHold := 100
    classRights := Vector.replicate 16 63, shareRights := Vector.replicate 16 63
    retPoints := points [0, 120, 260, 380, 450, 480, 480, 470, 455, 440, 420, 400, 380, 360, 340, 320, 300]
    stage1Points := points [40, 55, 70, 85, 100, 110, 118, 124, 128, 130, 130, 128, 125, 120, 115, 110, 105]
    stage2Points := points [70, 100, 125, 150, 172, 190, 204, 214, 220, 224, 225, 224, 220, 214, 208, 200, 192] }

/-- A health entry that reports a value. -/
def entry (v : Health) : HealthEntry := { value := v, timer := some 100 }

/-- The coach of chapter 11 before pass 101: NORMAL, no record, every entry OK. -/
def idle : State :=
  { State.reset with
    settings := coach
    intake := { Intake.afterPowerOn with timer := some 15, lastUsed := some 20, lastV := some 640, lastAmbient := 10 }
    health := { retarder := entry .ok, exhaust := entry .ok, modulator := Vector.replicate 3 (entry .ok) }
    app := { Apportioner.afterReset with passCount := 100 }
    accounts := #v[some ⟨2888, 0, 0⟩, some ⟨5441, 0, 0⟩, some ⟨4008, 0, 0⟩]
    ctl := { ModeControl.afterPowerOn with mode := .normal, settingsValid := true, fallback := false } }

/-- The same state in another mode. -/
def within (m : Mode) (s : State) : State := { s with ctl := { s.ctl with mode := m, fallback := m.assertsFallback } }

/-- A record of a demand class. -/
def demandRecord (n : Node) (h : Fin 4) (c : RecClass) (force : Nat) : Record :=
  { owner := n, handle := h, cls := c, shared := true, state := .active, force := force, limit := none
    sources := { ret := true, exh := true, svc := true }, exclusion := Vector.replicate 3 false, onset := none
    inhibit := none, leasePeriod := 20, nextLease := none, cover := .unserved }

/-- A STABILITY record. -/
def stability (n : Node) (h : Fin 4) (limit : Nat) : Record :=
  { demandRecord n h .stability 0 with limit := some limit, inhibit := some { ret := true, exh := true, svc := false } }

/-- A state with a record added in slot i at version 5, 200 ms left. -/
def holding (s : State) (i : SlotId) (r : Record) : State :=
  { s with
    demand :=
      { slots := s.demand.slots.set i { record := some r, version := 5, countdown := some 200, mark := false }
        age := s.demand.age ++ [i] }
    arbiter :=
      { s.arbiter with
        listed := if r.cls.intervention && r.state == .active then s.arbiter.listed ++ [i] else s.arbiter.listed
        waiting := if r.state == .waiting then s.arbiter.waiting ++ [i] else s.arbiter.waiting
        suppression := s.arbiter.suppression || (r.cls == .collision && r.state == .active) } }

/-- A DRIVER record in slot 0, owner 2, handle 0. -/
def driving : State := holding idle 0 (demandRecord 2 0 .driver 300)

/-- The same record STALE. -/
def stale : State := holding idle 0 { demandRecord 2 0 .driver 300 with state := .stale }

/-- A record of COLLISION. -/
def collision (n : Node) (st : RecState) : Record :=
  { demandRecord n 0 .collision 900 with inhibit := some .empty, state := st }

/-- Four listed interventions, the COLLISION record the oldest, one waiting, and a HELD DESCENT record. -/
def crowded : State :=
  holding (holding (holding (holding (holding (holding idle 0 (collision 10 .active)) 1 (stability 1 0 800))
    2 (stability 1 1 800)) 3 (stability 1 2 800)) 4 { stability 1 3 800 with state := .waiting })
    5 { demandRecord 6 0 .descent 560 with state := .held }

/-- A latch of node 2 with one qualifier. -/
def qualified (s : State) : State :=
  { s with latches := s.latches.set 2 { quals := [{ kind := .onset, value := 2000 }], hold := some 40 } }

/-- The sample of chapter 11's passes. -/
def sample : Sample :=
  { ts := 30, v := 640, n := 1900, ratio := 400, exhaustMark := false, oil := some 150, ambient := 10
    loads := #v[70, 110, 60], dt := 10 }

/-- The state with a pass in flight. -/
def flying (s : State) : State := { s with pass := some (s.newPass sample) }

/-! ## WellFormed: each check refuses an ill-formed term -/

def longData : List Byte := List.replicate 9 0
def plainFrame : CanFrame := { extended := true, remote := false, id := 0, data := [] }

theorem test_wf_open : (Instr.openRecord 0 0 longData).wellFormed = false := by decide
theorem test_wf_compact : (Instr.amendCompact 0 0 [0, 0, 0, 0, 0]).wellFormed = false := by decide
theorem test_wf_full_short : (Instr.amendFull 0 0 [0, 0, 0, 0]).wellFormed = false := by decide
theorem test_wf_full_long : (Instr.amendFull 0 0 longData).wellFormed = false := by decide
theorem test_wf_amend_if : (Instr.amendIf 0 0 longData).wellFormed = false := by decide
theorem test_wf_renew : (Instr.renew 0 0 longData).wellFormed = false := by decide
theorem test_wf_release : (Instr.release 0 0 longData).wellFormed = false := by decide
theorem test_wf_query : (Instr.query 0 0 longData).wellFormed = false := by decide
theorem test_wf_reserve : (Instr.reserve 0 0 longData).wellFormed = false := by decide
theorem test_wf_qualify : (Instr.qualify 0 0 longData).wellFormed = false := by decide
theorem test_wf_frame_long : (Instr.vehicleFrameIgnored { plainFrame with data := longData }).wellFormed = false := by decide
theorem test_wf_frame_id :
    (Instr.vehicleFrameIgnored { plainFrame with extended := false, id := 2048 }).wellFormed = false := by decide
theorem test_wf_chassis_handed_on :
    (Instr.chassisFrameIgnored { plainFrame with extended := false, id := 0x140, data := [0, 0] }).wellFormed = false := by
  decide
theorem test_wf_transfer : (Instr.transferRefusedOnForm [1, 0x70, 0, 0x8E]).wellFormed = false := by decide
theorem test_wf_unknown_run : (Instr.unknownCommand 1).wellFormed = false := by decide
theorem test_wf_unknown_setup : (Instr.unknownCommand 2).wellFormed = false := by decide
theorem test_wf_good : (Instr.amendFull 0 0 [0, 0, 0, 0, 0]).wellFormed = true := by decide

/-! ## Frames and transfers, written out from 10 -/

/-- R173: an OPEN from node 2 on handle 1 has identifier 0B5A1210h. -/
theorem test_decode_open :
    decodeVehicleFrame 0x0B5A { extended := true, remote := false, id := 0x0B5A1210, data := [1] }
      = some (.openRecord 2 1 [1]) := by decide

/-- R29: an AMEND of four bytes is compact, of five full. -/
theorem test_decode_amend :
    decodeVehicleFrame 0x0B5A { extended := true, remote := false, id := 0x0B5A2210, data := [1, 2, 3, 4] }
        = some (.amendCompact 2 1 [1, 2, 3, 4])
      ∧ decodeVehicleFrame 0x0B5A { extended := true, remote := false, id := 0x0B5A2210, data := [1, 2, 3, 4, 5] }
        = some (.amendFull 2 1 [1, 2, 3, 4, 5]) := by decide

/-- R173: the ANSWER to that OPEN has identifier 0B5AA210h. -/
theorem test_answer_id : vehicleId 0x0B5A 0xA 2 1 = 0x0B5AA210 := by decide

/-- R180: frame A is little-endian. -/
theorem test_decode_frame_a :
    decodeChassisFrame { extended := false, remote := false, id := 0x120, data := [0x34, 0x12, 0x80, 2, 0x6C, 7, 0x90, 1] }
      = some (.sampleFrameA 0x1234 640 1900 400) := by decide

/-- R180, R181: frame B and a health frame with bytes to spare. -/
theorem test_decode_frame_b :
    decodeChassisFrame { extended := false, remote := false, id := 0x121, data := [0x34, 0x12, 190, 50, 70, 110, 60, 9] }
        = some (.sampleFrameB 0x1234 190 50 70 110 60)
      ∧ decodeChassisFrame { extended := false, remote := false, id := 0x140, data := [3, 2, 9] } = some (.healthFrame 3 2) := by
  decide

/-- R160, R182: SELECT of index 0070h has check byte 8Eh. -/
theorem test_decode_select : transferBytes 1 0x70 = [1, 0x70, 0, 0x8E] := by decide

/-- R160: three bytes are FRAMING, a wrong check byte BAD_CHECK, operation 5 BAD_OPERATION. -/
theorem test_decode_form_errors :
    (decodeTransfer [1, 0x70, 0]).toOption = none ∧ (decodeTransfer [1, 0x70, 0, 0x8F]).toOption = none
      ∧ (decodeTransfer [5, 0, 0, 0xFA]).toOption = none := by decide

/-! ## The commands on small states -/

/-- Chapter 11: node 2's OPEN takes slot 0 at version 1, ACTIVE, and is answered ACCEPTED. -/
theorem test_open :
    (after (.openRecord 2 0 [2, 0, 0x2C, 1, 0xFF, 0xFF, 20]) idle).vehicleTx
      = [{ id := 0x0B5AA200, data := [1, 0, 0, 0, 0, 1, 1, 0] }] := by decide +kernel

/-- R5, R58: an intervention record that finds four listed takes WAITING, and is answered QUEUED with state 3. -/
theorem test_open_queued :
    (after (.openRecord 4 0 [0, 0, 0, 0, 0x58, 2, 10]) crowded).vehicleTx.map VehicleFrame.data
      = [[1, 1, 0, 0, 6, 3, 1, 0]] := by decide +kernel

/-- R18, R31, R34: a compact AMEND above 2500 stores 2500 and steps the version; its answer carries CLAMPED. -/
theorem test_amend_compact :
    (after (.amendCompact 2 0 [0xC5, 9]) driving).vehicleTx.map VehicleFrame.data = [[2, 0, 1, 0, 0, 1, 6, 0]] := by
  decide +kernel

/-- R16: a full-form AMEND with another lease period stages it. -/
theorem test_amend_full_stages :
    ((after (.amendFull 2 0 [0x2C, 1, 0xFF, 0xFF, 30]) driving).record 0).map (fun r => (r.leasePeriod, r.nextLease))
      = some (20, some 30) := by decide +kernel

/-- R11, R35: a full-form AMEND revives a STALE record. -/
theorem test_amend_full_revives :
    ((after (.amendFull 2 0 [0x2C, 1, 0xFF, 0xFF, 20]) stale).record 0).map Record.state = some .active := by decide +kernel

/-- R38: an AMEND_IF without a reservation is RESERVATION_LOST and names the slot. -/
theorem test_amend_if_lost :
    (after (.amendIf 3 0 [0, 5, 0x2C, 1, 0xFF, 0xFF, 20]) driving).vehicleTx.map VehicleFrame.data
      = [[3, 0x18, 0, 0, 0, 1, 5, 0]] := by decide +kernel

/-- R16, R39: a RENEW restarts the countdown of a lease of 20. -/
theorem test_renew : ((after (.renew 2 0 []) { driving with
    demand := { driving.demand with slots := driving.demand.slots.set 0 { driving.slot 0 with countdown := some 3 } } }).slot
      0).countdown = some 200 := by decide +kernel

/-- R9, R59, R61: the release of the COLLISION record admits the waiting one and lets the HELD one go. -/
theorem test_release :
    (after (.release 10 0 []) crowded).arbiter = { listed := [1, 2, 3, 4], waiting := [], suppression := false }
      ∧ ((after (.release 10 0 []) crowded).record 5).map Record.state = some .active := by decide +kernel

/-- R49, R177: a QUERY is answered by two report frames. -/
theorem test_query :
    (after (.query 2 0 []) driving).vehicleTx.map VehicleFrame.data
      = [[0, 5, 0xA2, 1, 0x2C, 1, 0xFF, 0xFF], [128, 5, 7, 20, 0, 20, 0xFF, 0xFF]] := by decide +kernel

/-- R19: a RESERVE of another node's shared record sets the sender's monitor at the version. -/
theorem test_reserve : (after (.reserve 3 0 [0]) driving).monitors[3] = { slot := 0, version := 5, valid := true } := by
  decide +kernel

/-- R43, R44: a QUALIFY of a stored kind is SHADOWED and the latch keeps its value. -/
theorem test_qualify_shadowed :
    (after (.qualify 2 0 [3, 9, 0]) (qualified idle)).vehicleTx.map VehicleFrame.data = [[8, 2, 0, 1, 0xFF, 0, 0, 0]] := by
  decide +kernel

/-- R10: a lease expiry makes the record STALE with the grace of its class, 20 for DRIVER. -/
theorem test_lease_expiry :
    ((after (.leaseExpiry 0) driving).slot 0).countdown = some 200
      ∧ ((after (.leaseExpiry 0) driving).record 0).map Record.state = some .stale := by decide +kernel

/-- R12: a grace expiry frees the slot and keeps the version counter. -/
theorem test_grace_expiry :
    (after (.graceExpiry 0) stale).slot 0 = { record := none, version := 5, countdown := none, mark := false } := by
  decide +kernel

/-- R76 to R80: an n above 4000 marks the exhaust, a Δt above 50 is 50, an invalid ambient is the last valid one. -/
theorem test_sample :
    (after (.sampleFrameB 200 190 126 70 110 60) (after (.sampleFrameA 200 640 4001 400) idle)).pass.map Pass.sample
      = some { sample with ts := 200, n := 4001, exhaustMark := true, dt := 50 } := by decide +kernel

/-- R83: a health frame of actuator 3 is recorded for axle 1. -/
theorem test_health : (after (.healthFrame 3 2) idle).health.modulator[1] = { value := .fault, timer := some 100 } := by
  decide +kernel

/-- R151: a missed period in NORMAL enters HOLD mode. -/
theorem test_sample_timer : (after .sampleTimerExpiry idle).ctl.mode = .hold := by decide +kernel

/-- R81: a reissue in LOSS takes a faulty exhaust's stage 2 to 0, and a pass in flight still starts its choice from stage 2. -/
theorem test_expiry_leaves_pass :
    let s : State := { within .loss driving with
      app := { driving.app with last := { driving.app.last with stage := 2 } }
      health := { driving.health with exhaust := entry .fault } }
    (after .sampleTimerExpiry (flying s)).app.last.stage = 0
      ∧ (after .sampleTimerExpiry (flying s)).pass.map Pass.currentStage = some 2 := by decide +kernel

/-- R84: a status timer that ends leaves FAULT. -/
theorem test_status_timer : (after (.statusTimerExpiry .exhaust) idle).health.exhaust.value = .fault := by decide +kernel

/-- R145, R154: the loss hold timer ends in FAILSAFE with FALLBACK asserted. -/
theorem test_loss_hold :
    (after .lossHoldExpiry { within .loss idle with ctl := { (within .loss idle).ctl with lossHold := some 1 } }).ctl.fallback
      = true := by decide +kernel

/-- Chapter 11, section 5.7: Cret 243, Fexh 91 and 158, Csvc 412, 647 and 353, fade 256, 231 and 256. -/
theorem test_capability :
    let c := (idle.newPass sample).cap
    (c.cret, c.stage1, c.stage2, c.csvc, c.fade) = (243, some 91, some 158, #v[412, 647, 353], #v[256, 231, 256]) := by
  decide +kernel

/-- R102's formula at the largest substitute load of R78, 280 at μ = 100 (log entry 18), and at its largest received one. -/
theorem test_adhesion :
    adhesionLimit { coach with mu := 100 } 280 = 2746 ∧ adhesionLimit { coach with mu := 100 } 254 = 2491 := by decide +kernel

/-- Chapter 11, pass 101: Fcmd 40, stage 0, Fret 40, cover PARTIAL. -/
theorem test_pass_end :
    let s := after .passEnd (after (.sampleFrameB 30 190 50 70 110 60) (after (.sampleFrameA 30 640 1900 400) driving))
    (s.app.passCount, s.app.fcmd, s.app.last.stage, s.app.last.ret, (s.record 0).map Record.cover)
      = (101, 40, 0, 40, some .part) := by decide +kernel

/-- Chapter 11, pass 103: at Fcmd 120 the stage is 1, Fexh 91 and Fret 29. -/
theorem test_pass_figures :
    let f := (driving.newPass sample).figures coach { Apportioner.afterReset with fcmd := 80, dir := .up }
    (f.fcmd, f.stage, f.fexh, f.fret) = (120, 1, 91, 29) := by decide +kernel

/-- R50: a vehicle-link frame sent leaves the queue. -/
theorem test_vehicle_frame_sent :
    (after .vehicleFrameSent { idle with vehicleTx := [{ id := 0, data := [] }] }).vehicleTx = [] := by decide +kernel

/-- R146: a line reset of a part with valid settings ends in STARTUP and keeps the settings and the accounts. -/
theorem test_line_reset :
    (after .lineReset driving).ctl.mode = .startup ∧ (after .lineReset driving).accounts = driving.accounts
      ∧ (after .lineReset driving).record 0 = none := by decide +kernel

/-- R146, R165: power-on sets the settings and the mode SETUP. -/
theorem test_power_on : (after .powerOn driving).settings = powerOnSettings ∧ (after .powerOn driving).ctl.mode = .setup := by
  decide +kernel

/-- R159: at the end of a reset the response is RESTARTED. -/
theorem test_reset_end :
    (after .resetEnd (after .supplyDip driving)).port.response = { status := .restarted, value := 0 }
      ∧ (after .resetEnd (after .supplyDip driving)).ctl.cause = .supplyDip := by decide +kernel

/-- Section 9.5's walk, R160 to R163: the axle count is selected and written in SETUP. -/
theorem test_write :
    (after (.write 3) (after (.select 0x70) State.reset)).settings.axleCount = 3
      ∧ (after (.write 3) (after (.select 0x70) State.reset)).port.response = { status := .ok, value := 3 } := by
  decide +kernel

/-- R170: the live value 0200h reads the mode. -/
theorem test_read : (after (.read 0) (after (.select 0x200) idle)).port.response = { status := .ok, value := 2 } := by
  decide +kernel

/-- R167: RUN on the power-on image is INCONSISTENT, group 1. -/
theorem test_run : (after .run State.reset).port.response = { status := .inconsistent, value := 0x100 } := by decide +kernel

/-- R150: SETUP at a last valid v of 640 is IN_MOTION. -/
theorem test_setup : (after .setup idle).port.response = { status := .inMotion, value := 640 } := by decide +kernel

/-- R166: a command code of 3 is BAD_OPERATION. -/
theorem test_unknown : (after (.unknownCommand 3) idle).port.response.status = .badOperation := by decide +kernel

/-- R160: a transfer of three bytes is FRAMING. -/
theorem test_framing : (after (.transferRefusedOnForm [1, 2, 3]) idle).port.response.status = .framing := by decide +kernel

/-- R56, R165: power-on values at the two ends of the image. -/
theorem test_power_on_values :
    powerOnSettings.get .protocolTag = 0x0B5A ∧ powerOnSettings.get .lossHold = 1000 := by decide

/-! ## Witnesses: states and operands that meet the hypotheses of each statement, clause by clause -/

/-- Every countdown of this state has exactly 2 ms left. -/
def lastButOne : State :=
  { within .loss driving with
    demand := { driving.demand with slots := driving.demand.slots.set 0 { driving.slot 0 with countdown := some 2 } }
    latches := (qualified driving).latches.set 2 { quals := [], hold := some 2 }
    health := { retarder := { value := .ok, timer := some 2 }, exhaust := { value := .ok, timer := some 2 }
                modulator := Vector.replicate 3 { value := .ok, timer := some 2 } }
    intake := { driving.intake with timer := some 2 }
    ctl := { (within .loss driving).ctl with lossHold := some 2 } }

/-- A countdown of that state replaced. -/
def lastButOneWith (c : Timer) : State :=
  match c with
  | .slot i => lastButOne.putSlot i { lastButOne.slot i with countdown := some 1 }
  | .latch n => { lastButOne with latches := lastButOne.latches.set n { quals := [], hold := some 1 } }
  | .status x => { lastButOne with health := lastButOne.health.put x { value := .ok, timer := some 1 } }
  | .sample => { lastButOne with intake := { lastButOne.intake with timer := some 1 } }
  | .lossHold => { lastButOne with ctl := { lastButOne.ctl with lossHold := some 1 } }

/-- Every countdown of the part. -/
def timers : List Timer :=
  (List.finRange 24).map .slot ++ (List.finRange 16).map .latch ++ healthSources.map .status ++ [.sample, .lossHold]

/-- Every countdown at 2 ms, and one of each family alone at 1 ms. -/
theorem witness_QuietMillisecond :
    lastButOne.pending = [] ∧ lastButOne.inReset = false ∧ (∀ d ∈ timers, ∀ k ∈ left lastButOne d, 2 ≤ k)
      ∧ (∀ c ∈ [Timer.slot 0, .latch 2, .status .exhaust, .status (.modulator 2), .sample, .lossHold],
          left (lastButOneWith c) c = some 1 ∧ (∀ d ∈ timers, d ≠ c → ∀ k ∈ left (lastButOneWith c) d, 2 ≤ k))
      ∧ lastButOne.record 0 ≠ none ∧ lastButOne.ctl.mode = .loss := by decide +kernel

theorem witness_ResetTakesNoEvent : (after .lineReset driving).inReset = true := by decide +kernel

/-- Three interventions listed. -/
def three : State :=
  holding (holding (holding idle 1 (stability 1 0 800)) 2 (stability 1 1 800)) 3 (stability 1 2 800)

/-- A COLLISION record opened with three interventions listed. -/
theorem witness_OpenAdmitted :
    three.inReset = false ∧ openRefusal three 10 0 [1, 0, 0x84, 3, 0xFF, 0xFF, 10] = none
      ∧ RecClass.ofCode 1 = some .collision ∧ slotForOpen three (handleSlot three 10 0) = some 0
      ∧ ((three.quals 10).map Qualifier.kind).Nodup ∧ ArbiterLaw three := by decide +kernel

/-- A COLLISION record opened with four listed. -/
theorem witness_OpenAdmitted_waiting :
    crowded.inReset = false ∧ openRefusal crowded 4 0 [1, 0, 0x84, 3, 0xFF, 0xFF, 10] = none
      ∧ slotForOpen crowded (handleSlot crowded 4 0) = some 6 ∧ ((crowded.quals 4).map Qualifier.kind).Nodup
      ∧ ArbiterLaw crowded := by decide +kernel

/-- An OPEN on the handle of a STALE record, with a latched qualifier. -/
theorem witness_OpenAdmitted_stale :
    (qualified stale).inReset = false ∧ openRefusal (qualified stale) 2 0 [2, 0, 0x2C, 1, 0xFF, 0xFF, 20] = none
      ∧ RecClass.ofCode 2 = some .driver ∧ slotForOpen (qualified stale) (handleSlot (qualified stale) 2 0) = some 0
      ∧ (((qualified stale).quals 2).map Qualifier.kind).Nodup ∧ ArbiterLaw (qualified stale) := by decide +kernel

theorem witness_OpenRefused :
    driving.inReset = false
      ∧ openRefusal driving 2 0 [2, 0, 0x2C, 1, 0xFF, 0xFF, 20] = some (.handleInUse, some 0)
      ∧ openRefusal driving 2 1 [0, 0, 1, 0, 0, 0, 20] = some (.classField, none)
      ∧ openRefusal State.reset 2 0 [] = some (.notRunning, none) := by decide +kernel

/-- R47 at the ends of its ranges, on 2 and on 3 axles. -/
theorem witness_OpenRefused_qualifiers :
    let valid (t : Settings) (c : RecClass) (k : QualKind) (values : List Half) : List Bool :=
      values.map fun v => Qualifier.validFor t c { kind := k, value := v }
    valid coach .stability .sources [0, 1, 7, 8] = [false, true, true, false]
      ∧ valid coach .stalk .axles [0, 7, 8] = [true, true, false]
      ∧ valid { coach with axleCount := 2 } .stalk .axles [0, 3, 4] = [true, true, false]
      ∧ valid coach .collision .onset [0, 1, 20000, 20001] = [true, true, true, false]
      ∧ valid coach .stalk .onset [0, 1, 20000, 20001] = [false, true, true, false]
      ∧ valid coach .stability .onset [0, 1] = [false, false]
      ∧ valid coach .stability .inhibit [0, 7, 8] = [true, true, false]
      ∧ valid coach .driver .inhibit [0, 7] = [false, false] := by decide +kernel

theorem witness_AmendCompactApplied :
    (qualified driving).inReset = false ∧ amendRefusal (qualified driving) 2 0 [0xC5, 9] = none
      ∧ handleSlot (qualified driving) 2 0 = some 0 ∧ (qualified driving).record 0 = some (demandRecord 2 0 .driver 300)
      ∧ (((qualified driving).quals 2).map Qualifier.kind).Nodup := by decide +kernel

theorem witness_AmendFullApplied :
    driving.inReset = false ∧ amendRefusal driving 2 0 [0x2C, 1, 0xFF, 0xFF, 30] = none
      ∧ handleSlot driving 2 0 = some 0 ∧ driving.record 0 = some (demandRecord 2 0 .driver 300)
      ∧ ((driving.quals 2).map Qualifier.kind).Nodup := by decide +kernel

theorem witness_AmendFullRevives :
    stale.inReset = false ∧ amendRefusal stale 2 0 [0x2C, 1, 0xFF, 0xFF, 30] = none ∧ handleSlot stale 2 0 = some 0
      ∧ stale.record 0 = some { demandRecord 2 0 .driver 300 with state := .stale }
      ∧ ((stale.quals 2).map Qualifier.kind).Nodup ∧ ArbiterLaw stale := by decide +kernel

theorem witness_AmendRefused :
    driving.inReset = false ∧ amendRefusal driving 2 0 [1] = some (.badLength, none)
      ∧ amendRefusal stale 2 0 [1, 0] = some (.recordStale, some 0)
      ∧ amendRefusal driving 2 4 [1, 0] = some (.badHandle, none) := by decide +kernel

/-- Node 3's reservation of the record in slot 0. -/
def reserved : State := { driving with monitors := driving.monitors.set 3 { slot := 0, version := 5, valid := true } }

theorem witness_AmendIfApplied :
    reserved.inReset = false ∧ amendIfRefusal reserved 3 [0, 5, 0x2C, 1, 0xFF, 0xFF, 20] = none
      ∧ reserved.record 0 = some (demandRecord 2 0 .driver 300) ∧ ((reserved.quals 3).map Qualifier.kind).Nodup := by
  decide +kernel

theorem witness_AmendIfRefused :
    reserved.inReset = false ∧ amendIfRefusal reserved 3 [0, 4, 0x2C, 1, 0xFF, 0xFF, 20] = some (.reservationLost, some 0)
      ∧ amendIfRefusal reserved 3 [23, 5, 0, 0, 0, 0, 0] = some (.reservationLost, none)
      ∧ amendIfRefusal reserved 3 [0, 5] = some (.badLength, none) := by decide +kernel

theorem witness_AmendIfNeedsReservation :
    ∃ t, exec (.amendIf 3 0 [0, 5, 0x2D, 1, 0xFF, 0xFF, 20]) reserved = .next t ∧ t.slot 0 ≠ reserved.slot 0 :=
  ⟨after (.amendIf 3 0 [0, 5, 0x2D, 1, 0xFF, 0xFF, 20]) reserved, rfl, by decide +kernel⟩

/-- R31 at the ends of its ranges. -/
theorem witness_LeaseClamp_values :
    (clampForce 2500, clampForce 2501, clampForce 0xFFFF) = (2500, 2500, 2500)
      ∧ (forceClamped 2500, forceClamped 2501, forceClamped 0xFFFF) = (false, true, true)
      ∧ (clampLimit 2500, clampLimit 2501, clampLimit 0xFFFE, clampLimit 0xFFFF) = (some 2500, some 2500, some 2500, none)
      ∧ (limitClamped 2500, limitClamped 2501, limitClamped 0xFFFE, limitClamped 0xFFFF) = (false, true, true, false) := by
  decide

/-- R55's table: bounds 2 to 50 with 0, 30 and 90, and bounds 40 to 20 with 30 and 20. -/
theorem witness_LeaseClamp :
    let row (a b : Half) : ClassRow := { sources := 7, leaseMin := a, leaseMax := b, grace := 20 }
    clampLease (row 2 50) 0 = 2 ∧ clampLease (row 2 50) 30 = 30 ∧ clampLease (row 2 50) 90 = 50
      ∧ clampLease (row 40 20) 30 = 20 ∧ leaseClamped (row 40 20) 20 = true ∧ leaseClamped (row 2 50) 50 = false := by
  decide

theorem witness_RenewApplied :
    driving.inReset = false ∧ handleRefusal driving 2 0 = none ∧ handleSlot driving 2 0 = some 0
      ∧ driving.record 0 = some (demandRecord 2 0 .driver 300) := by decide +kernel

theorem witness_ReleaseApplied :
    crowded.inReset = false ∧ handleRefusal crowded 10 0 = none ∧ handleSlot crowded 10 0 = some 0
      ∧ handleSlot crowded 1 3 = some 4 ∧ ArbiterLaw crowded := by decide +kernel

theorem witness_QueryReported :
    driving.inReset = false ∧ driving.record 0 = some (demandRecord 2 0 .driver 300) ∧ handleRefusal driving 2 0 = none
      ∧ handleSlot driving 2 0 = some 0 ∧ driving.ctl.mode ≠ .setup := by decide +kernel

theorem witness_LookupRefused :
    handleRefusal driving 2 4 = some (.badHandle, none) ∧ handleRefusal stale 2 0 = none ∧ handleSlot stale 2 0 = some 0
      ∧ isStale stale 0 = true ∧ State.reset.ctl.mode = .setup ∧ driving.ctl.mode ≠ .setup
      ∧ (∀ i : SlotId, i.val = (byteAt [24] 0).toNat → driving.record i = none)
      ∧ (∀ i : SlotId, i.val = (byteAt [23] 0).toNat → driving.record i = none) := by decide +kernel

theorem witness_ReserveOutcome :
    driving.inReset = false ∧ reserveRefusal driving 3 [0] = none
      ∧ driving.record 0 = some (demandRecord 2 0 .driver 300) ∧ reserveRefusal driving 3 [24] = some (.noRecord, none)
      ∧ reserveRefusal stale 3 [0] = some (.recordStale, some 0) := by decide +kernel

theorem witness_QualifyOutcome :
    qualifyResult idle 2 [3, 9, 0] = .accepted ∧ QualKind.ofCode 3 = some .onset
      ∧ qualifyResult (qualified idle) 2 [3, 9, 0] = .shadowed ∧ qualifyResult (qualified idle) 2 [4, 9, 0] = .accepted := by
  decide +kernel

/-- A frame of another tag, a remote frame, a kind of 0, 9 and 15; on the chassis link a frame A of 7 bytes; the tag 1FFFh. -/
theorem witness_FramesFiltered :
    ((0x0B5B1210#29 >>> 16).setWidth 16 ≠ idle.settings.protocolTag)
      ∧ (0x0B5A0210#29).toNat / 4096 % 16 = 0 ∧ 9 ≤ (0x0B5A9210#29).toNat / 4096 % 16
      ∧ 9 ≤ (0x0B5AF210#29).toNat / 4096 % 16 ∧ ¬ 8 ≤ (List.replicate 7 (0 : Byte)).length
      ∧ (0x1FFF : Half).toNat < 8192 := by decide

set_option synthInstance.maxHeartbeats 200000 in
set_option synthInstance.maxSize 1000 in
/-- A demand record at the ends of its ranges fits the coach. -/
theorem witness_ReportLayout :
    { demandRecord 15 3 .stalk 2500 with onset := some 20000, leasePeriod := 255, nextLease := some 1 }.fits coach
      ∧ (stability 0 0 2500).fits coach ∧ (stability 0 0 0).fits coach := by decide +kernel

/-- Slots filled from kind k on, the frame of kind `air` on the link. -/
def offering (k : Nat) (air : Option (Fin 4)) : State :=
  { idle with chassisTx :=
      { slots := Vector.ofFn fun j =>
          { front := if k ≤ j.val then some { id := 0x100, data := [] } else none, begun := air == some j, behind := none }
        onAir := air } }

theorem witness_FrameLayouts :
    (0x1FFF : Half).toNat < 8192 ∧ 2500 < 65536 ∧ (-4096 : Int) ≤ -200 ∧ (2500 : Int) ≤ 4095 ∧ (940 : Nat) < 1024 := by decide

/-- The frame of kind 3 on the link with the lower slots filled since, and no frame known to be on it. -/
theorem witness_FramesSent :
    SlotLaw (offering 0 (some 3)) ∧ firstOffered (offering 0 (some 3)).chassisTx 0
      ∧ (offering 0 (some 3)).chassisTx.onAir = some 3 ∧ SlotLaw (offering 2 none)
      ∧ firstOffered (offering 2 none).chassisTx 2 ∧ (offering 2 none).inReset = false := by decide +kernel

/-- R124: a frame that lost the link is offered again with the others, and the lowest identifier goes first. -/
theorem test_lost_frame_offered_again :
    ((offering 0 (some 3)).chassisTx.sent true).slots[0].front = none
      ∧ ((offering 0 (some 3)).chassisTx.sent true).slots[3].front.isSome = true
      ∧ ((offering 0 (some 3)).chassisTx.sent false).slots[3].front = none := by decide +kernel

/-- A queue with an older pair behind its head, and one whose only pair holds the head. -/
theorem witness_SummaryPlacement :
    let a : VehicleFrame := { id := 0x0B5AA210, data := [] }
    let c : VehicleFrame := { id := 0x0B5AC000, data := [] }
    let d : VehicleFrame := { id := 0x0B5AD000, data := [] }
    c.kind = 0xC ∧ d.kind = 0xD ∧ a.kind ≠ 0xC
      ∧ (idle.placeSummary c d).vehicleTx = [c, d]
      ∧ ({ idle with vehicleTx := [a, a, c, d, a] }.placeSummary c d).vehicleTx.length = 5
      ∧ ({ idle with vehicleTx := [c, d] }.placeSummary c d).vehicleTx = [c, d, c, d]
      ∧ ({ idle with vehicleTx := List.replicate 15 a }.placeSummary c d).vehicleTx.length = 15
      ∧ ({ idle with vehicleTx := List.replicate 14 a }.placeSummary c d).vehicleTx.length = 16
      ∧ idle.settings.protocolTag.toNat < 8192 := by decide +kernel

theorem witness_SetPointFramesHanded :
    idle.app.last.ret < 65536 ∧ idle.settings.axleConfigured 2 = true ∧ idle.app.last.pressure[2] < 65536
      ∧ ({ idle.settings with axleCount := 2 } : Settings).axleConfigured 2 = false := by decide +kernel

theorem witness_LeaseExpiryEffect :
    crowded.inReset = false ∧ crowded.record 0 = some (collision 10 .active)
      ∧ crowded.record 4 = some { stability 1 3 800 with state := .waiting } ∧ ArbiterLaw crowded := by decide +kernel

theorem witness_TimersExpire :
    stale.inReset = false ∧ stale.record 0 = some { demandRecord 2 0 .driver 300 with state := .stale }
      ∧ (qualified idle).latches[2].hold ≠ none ∧ idle.health.retarder.timer ≠ none
      ∧ idle.health.exhaust.timer ≠ none ∧ idle.health.modulator[2].timer ≠ none
      ∧ (within .loss lastButOne).ctl.lossHold ≠ none ∧ (within .loss lastButOne).ctl.mode = .loss := by decide +kernel

theorem witness_SampleTimerExpiryByMode :
    idle.inReset = false ∧ idle.intake.timer ≠ none ∧ idle.ctl.mode = .normal ∧ (within .hold idle).ctl.mode = .hold
      ∧ (within .loss idle).ctl.mode = .loss ∧ (within .failsafe idle).ctl.mode = .failsafe
      ∧ (within .failsafe idle).ctl.fallback = true
      ∧ (flying (within .loss idle)).pass ≠ none ∧ (flying (within .loss idle)).intake.timer ≠ none := by decide +kernel

/-- A pending A of timestamp 30 with the last-used timestamp 20, then with 30; a v of 1500 and of 1501. -/
def paired (v : Half) (last : Option Half) : State :=
  { idle with intake := { idle.intake with
      pendingA := some { ts := 30, v := v, n := 1900, ratio := 400 }, lastUsed := last } }

theorem witness_SampleFramesStoredOrDropped :
    State.reset.inReset = false ∧ State.reset.ctl.mode = .setup ∧ idle.ctl.mode ≠ .setup
      ∧ (∀ a ∈ (paired 640 none).intake.pendingA, a.ts ≠ 31) ∧ (paired 640 (some 30)).intake.lastUsed = some 30
      ∧ (∀ a ∈ (paired 1501 none).intake.pendingA, a.ts = 30 ∧ 1500 < a.v.toNat) := by decide +kernel

theorem witness_SampleCompleted :
    (paired 1500 (some 20)).inReset = false ∧ (paired 1500 (some 20)).ctl.mode ≠ .setup
      ∧ (paired 1500 (some 20)).intake.pendingA = some { ts := 30, v := 1500, n := 1900, ratio := 400 }
      ∧ (paired 1500 (some 20)).intake.lastUsed ≠ some 30 ∧ (1500 : Half).toNat ≤ 1500
      ∧ (paired 1500 (some 20)).pass = none ∧ (flying (paired 1500 (some 20))).pass.isSome = true := by decide +kernel

theorem witness_HealthFrameRecorded :
    idle.inReset = false ∧ idle.ctl.mode ≠ .setup ∧ (4 : Byte).toNat = 2 + (2 : AxleId).val
      ∧ idle.settings.axleConfigured 2 = true
      ∧ ({ idle.settings with axleCount := 2 } : Settings).axleConfigured 2 = false
      ∧ 2 < (3 : Byte).toNat ∧ 4 < (5 : Byte).toNat := by decide +kernel

theorem witness_PassEndEffect :
    (flying driving).inReset = false ∧ (flying driving).pass = some (driving.newPass sample) := by decide +kernel

/-- The capability of chapter 11's samples with other figures for the brakes. -/
def passWith (f : Capability → Capability) : Pass := { driving.newPass sample with cap := f (driving.newPass sample).cap }

/-- The apportioner at a total that the pass keeps. -/
def standing (force : Nat) : Apportioner := { Apportioner.afterReset with fcmd := force }

/-- A shortfall, an overshoot within the hysteresis, a remainder of 0, and no candidate at all. -/
theorem witness_PassBalance :
    let short := passWith fun c => { c with csvc := Vector.replicate 3 10, cret := 0 }
    let bare := passWith fun c => { c with candidate := Vector.replicate 3 false, cret := 0 }
    0 < (short.figures coach (standing 300)).shortfall
      ∧ (∀ j : AxleId, bare.candidates[j] = false) ∧ 0 < (bare.figures coach (standing 300)).shortfall
      ∧ ((passWith id).figures coach (standing 300)).fexh = 158
      ∧ (let p := { passWith id with arb := { (passWith id).arb with fgov := 140 }, currentStage := 2 };
          (p.figures coach (standing 140)).overshoot = 18 ∧ (p.figures coach (standing 140)).fcmd = 140) := by
  decide +kernel

theorem witness_SharesWithinCapability :
    let p := driving.newPass sample
    p.cap = capability coach p.sample p.health p.arb.sources driving.fadeFactors
      ∧ (let q := (within .normal { driving with
            health := { driving.health with exhaust := entry .degraded, retarder := entry .fault } }).newPass sample;
          q.health.exhaust = .degraded ∧ q.health.retarder = .fault)
      ∧ stageAt p.cap 2 = some 158 ∧ ({ p with currentStage := 2 }.figures coach (standing 140)).stage = 2 ∧ (p.figures coach (standing 300)).stage = 2
      ∧ (Pass.candidates (passWith fun c => { c with candidate := Vector.replicate 3 false }))[0] = false := by
  decide +kernel

/-- Section 6.5's two worked distributions: the pool shared again till it is placed, and a shortfall of 100. -/
theorem witness_SharesWithinCapability_rounds :
    let w : Vector Nat 3 := #v[17920, 14080, 15360]
    let csvc : Vector Nat 3 := #v[68, 215, 117]
    let all : AxleSet := Vector.replicate 3 true
    let run (r : Nat) : Board := Board.next w csvc (Board.next w csvc (Board.next w csvc (firstBoard all r)))
    distribute w csvc all 300 = { shares := #v[68, 115, 117], unplaced := 0 }
      ∧ distribute w csvc all 500 = { shares := #v[68, 215, 117], unplaced := 100 }
      ∧ (run 300).shares = #v[68, 115, 117] ∧ (run 300).amount = 0 ∧ (run 500).shares = #v[68, 215, 117]
      ∧ (run 500).amount = 100 ∧ roundShares w all 100 = #v[38, 30, 32] := by decide +kernel

theorem witness_SharingRound :
    let w : Vector Nat 3 := #v[17920, 25410, 15360]
    let a : AxleSet := Vector.replicate 3 true
    0 < (weightsIn w a)[0] + (weightsIn w a)[1] + (weightsIn w a)[2] ∧ roundShares w a 100 = #v[31, 43, 26]
      ∧ (let z := weightsIn w (Vector.replicate 3 false);
          z[0] + z[1] + z[2] = 0) := by decide

theorem witness_CappedTotal :
    let s := holding (holding idle 0 (demandRecord 2 0 .driver 2500)) 1 (stability 1 0 30)
    s.app.fcmd ≤ 2500 ∧ (s.newPass sample).arb.cap = some 30 ∧ (1 : SlotId) ∈ s.demand.age
      ∧ s.record 1 = some (stability 1 0 30)
      ∧ ((s.newPass sample).figures s.settings s.app).fcmd = 30
      ∧ (driving.newPass sample).arb.cap = none := by decide +kernel

/-- UP below and up to the target, unlimited, DOWN below and up to the target, LEVEL. -/
theorem witness_RampIsExact :
    ramp .up (some 4000) 3000 10 300 0 0 = { fcmd := 40, rho := 0 }
      ∧ ramp .up (some 4000) 3000 10 300 280 0 = { fcmd := 300, rho := 0 }
      ∧ ramp .up (some 0) 3000 10 300 0 0 = { fcmd := 300, rho := 0 }
      ∧ ramp .down none 3000 10 0 300 0 = { fcmd := 270, rho := 0 }
      ∧ ramp .down none 3000 10 269 300 0 = { fcmd := 270, rho := 0 }
      ∧ ramp .down none 3000 10 270 300 0 = { fcmd := 270, rho := 0 }
      ∧ ramp .down none 3000 10 290 300 0 = { fcmd := 290, rho := 0 }
      ∧ ramp .level none 3000 10 300 300 0 = { fcmd := 300, rho := 0 } := by decide

theorem witness_PressureOfShare :
    0 < coach.gain[1].toNat ∧ coach.pmax[1].toNat % 5 = 0 ∧ brakeLimit coach 1 231 = 1073 ∧ 1073 ≤ brakeLimit coach 1 231
      ∧ pressureOf coach 1 231 1073 = 850 ∧ (2 : AxleId).val < coach.axleCount.toNat := by decide +kernel

/-- The reference tables are in order, and the coach passes every check of RUN. -/
theorem witness_LookupLaws :
    (∀ k : Fin 17, coach.stage1Points[k].toNat ≤ coach.stage2Points[k].toNat) ∧ inconsistency coach = none
      ∧ (1900 - 600) / 240 = (5 : Fin 16).val ∧ lookup coach.stage1Points 600 240 600 = 40
      ∧ 600 + 16 * 240 ≤ 4440 ∧ lookup coach.stage2Points 600 240 4440 = 192 := by decide +kernel

/-- Section 5.7's account of axle 1, T16 5441, is at 340 °C with the fade factor 231. -/
theorem witness_CapabilityRanges_fade :
    (1 : AxleId).val < idle.settings.axleCount.toNat ∧ idle.accounts[1] = some ⟨5441, 0, 0⟩ ∧ (16 * 340 : Int) ≤ 5441
      ∧ (5441 : Int) < 16 * 340 + 16 ∧ fadeFactor idle.settings 340 = 231 ∧ idle.fadeFactors[1] = 231 := by decide +kernel

theorem witness_CapabilityRanges :
    coach.tder.toInt < coach.tcut.toInt ∧ coach.ts.toInt < coach.te.toInt ∧ coach.fadeFloor.toNat ≤ 256
      ∧ coach.mu.toNat ≤ 100 ∧ (∀ k : Fin 17, coach.retPoints[k].toNat ≤ 2500)
      ∧ derating coach (some 140) = 256 ∧ derating coach (some 165) = 0 ∧ derating coach none = 128
      ∧ fadeFactor coach 299 = 256 ∧ fadeFactor coach 300 = 256 ∧ fadeFactor coach 500 = 128
      ∧ (let p := 40 + 20 * coach.retPitch.toNat
        0 < p ∧ (1 - 0) / p = (0 : Fin 16).val ∧ (16 * p - 1 - 0) / p = (15 : Fin 16).val) := by decide +kernel

/-- Chapter 11's accounts: axle 1 at T16 5441 is the hottest, 340 °C, reported as 380 in WARM. -/
theorem witness_ThermalUpdateIsExact :
    0 < heatDivisor coach 1 ∧ 0 < coolDivisor coach 1 ∧ (∀ k : AxleId, idle.accounts[k] ≠ none)
      ∧ idle.accounts[1] = some ⟨5441, 0, 0⟩ ∧ (1 : AxleId).val < idle.settings.axleCount.toNat
      ∧ (∀ k : AxleId, ∀ b ∈ idle.accounts[k], b.t16 ≤ 5441) ∧ (16 * 340 : Int) ≤ 5441 ∧ (5441 : Int) < 16 * 340 + 16
      ∧ idle.hottest = { figure := 380, band := .warm } := by decide +kernel

theorem witness_GoverningRecord :
    governing driving.demand.slots driving.demand.age = some (0, demandRecord 2 0 .driver 300)
      ∧ governing idle.demand.slots idle.demand.age = none := by decide +kernel

/-- R65 to R69 on the crowded lists: STABILITY limits cap at 800, their inhibit withholds RET and EXH, DESCENT is HELD, and the
COLLISION record governs with no axle excluded and an unlimited onset. -/
theorem witness_GoverningRecord_result :
    let a := arbitrate coach crowded.demand.slots crowded.demand.age crowded.arbiter.listed
    (a.cap, a.inhibit, a.sources, a.onset, a.fgov)
      = (some 800, { ret := true, exh := true, svc := false }, { ret := false, exh := false, svc := true }, some 0, 900) := by
  decide +kernel

theorem witness_DutyTimerUpdate :
    (DutyTimer.stopped.update true 10 10).running = true
      ∧ ({ running := true, count := 6553500, warn := true } : DutyTimer).update true 10 1200
        = { running := true, count := 6553500, warn := true }
      ∧ ({ running := true, count := 990, warn := false } : DutyTimer).update true 10 10
        = { running := true, count := 1000, warn := true }
      ∧ ({ running := true, count := 1000, warn := true } : DutyTimer).update false 10 10
        = { running := false, count := 1000, warn := false } := by decide

/-- The pointer at a setting, at a live value and at none; an index of the map and a number missing from it. -/
def pointing (p : Option PortIndex) (m : Mode) : State := within m (idle.point p)

theorem witness_SelectAndRead :
    (pointing none .normal).inReset = false ∧ (pointing none .normal).port.pointer = none
      ∧ (pointing (some (.setting .mu)) .normal).port.pointer = some (.setting .mu)
      ∧ (pointing (some (.live .fcmd)) .normal).port.pointer = some (.live .fcmd)
      ∧ (PortIndex.setting .mu).code = (0x72 : Half).toNat ∧ PortIndex.ofCode 0x73 = none := by decide +kernel

theorem witness_WriteOutcome :
    (pointing (some (.setting .mu)) .setup).inReset = false ∧ (pointing (some (.setting .mu)) .setup).ctl.mode = .setup
      ∧ (pointing (some (.setting .mu)) .normal).ctl.mode ≠ .setup
      ∧ SettingIndex.mu.inRange 10 = true ∧ SettingIndex.mu.inRange 9 = false ∧ SettingIndex.mu.inRange 100 = true
      ∧ SettingIndex.mu.inRange 101 = false := by decide +kernel

/-- R183, R184: rows of the tables at the ends of the image, and −40 °C, which is FFD8h. -/
theorem witness_settingRows :
    (settingRows powerOnSettings).length = 150 ∧ row 0x72 60 10 100 60 ∈ settingRows powerOnSettings
      ∧ (degrees 0xF0 140 (-40) 210 140).number 0xFFD8 = -40 ∧ SettingIndex.tder.inRange 0xFFD8 = true := by decide +kernel

/-- An image for every outcome of the consistency checks. -/
theorem witness_RunChecks :
    inconsistency { coach with axleCount := 4 } = some (1, 0) ∧ inconsistency { coach with axleCount := 2 } = some (2, 0)
      ∧ inconsistency { coach with tder := 165 } = some (3, 0) ∧ inconsistency { coach with te := 300 } = some (4, 0)
      ∧ inconsistency { coach with stage2Points := coach.stage2Points.set 16 104 } = some (5, 16)
      ∧ inconsistency { coach with classRights := coach.classRights.set 15 64 } = some (6, 15)
      ∧ inconsistency coach = none := by decide +kernel

theorem witness_RunOutcome :
    idle.inReset = false ∧ idle.ctl.mode ≠ .setup ∧ State.reset.inReset = false ∧ State.reset.ctl.mode = .setup
      ∧ inconsistency State.reset.settings = some (1, 0)
      ∧ (within .setup idle).ctl.mode = .setup ∧ inconsistency (within .setup idle).settings = none := by decide +kernel

theorem witness_SetupOutcome :
    let inUse (s : State) := ((List.finRange 24).filter fun i => (s.record i).isSome).length
    let slow (v : Nat) : State := { idle with intake := { idle.intake with lastV := some v } }
    inUse driving ≠ 0 ∧ inUse idle = 0 ∧ (slow 5).intake.lastV = some 5 ∧ (∀ v ∈ (slow 4).intake.lastV, v < 5)
      ∧ (slow 4).ctl.mode ≠ .setup ∧ (∀ v ∈ State.reset.intake.lastV, v < 5) ∧ State.reset.ctl.mode = .setup := by
  decide +kernel

theorem witness_TransferRefused :
    ([1, 2, 3] : List Byte).length < 4 ∧ byteAt [1, 0x70, 0, 0x8F] 3 ≠ checkByte 1 0x70 0
      ∧ byteAt [0, 0, 0, 0xFF] 3 = checkByte 0 0 0 ∧ byteAt [5, 0, 0, 0xFA] 3 = checkByte 5 0 0
      ∧ (0 : Half) ≠ 1 ∧ (3 : Half) ≠ 2 := by decide

/-- The laws hold together in a state with records of every kind, and every step answers a next state. -/
theorem witness_laws_table : TableLaw crowded ∧ ArbiterLaw crowded := by decide +kernel

set_option synthInstance.maxHeartbeats 200000 in
set_option synthInstance.maxSize 1000 in
theorem witness_laws_records : RecordLaw crowded ∧ MonitorLaw reserved ∧ MonitorLaw crowded := by decide +kernel

theorem witness_laws_figures : TotalLaw crowded ∧ PressureLaw crowded ∧ AccountLaw crowded := by decide +kernel

theorem witness_laws_buffers : QueueLaw crowded ∧ LatchLaw (qualified crowded) ∧ SlotLaw (offering 1 (some 1)) := by
  decide +kernel

theorem witness_laws_others :
    FallbackLaw crowded ∧ ValidLaw crowded ∧ ModeLaw crowded ∧ HealthLaw crowded ∧ IntakeLaw crowded ∧ DutyLaw crowded := by
  decide +kernel

theorem witness_laws_step :
    ∃ t, step { crowded with pending := [.release 10 0 []] } = .next t ∧ t.slot 0 ≠ crowded.slot 0 :=
  ⟨after (.release 10 0 []) crowded, rfl, by decide +kernel⟩

end Sys2Proof.Tests
end

section
/-! PROOF. The clamps of carried values (R31, R55), and what an amendment does with the clamped lease period (R16). -/

namespace Sys2Proof.Machine

/-! ## Force and limit (R31) -/

theorem clampForce_of_le {x : Half} (h : x.toNat ≤ 2500) : clampForce x = x.toNat ∧ forceClamped x = false :=
  ⟨min_eq_left h, decide_eq_false (by omega)⟩

theorem clampForce_of_gt {x : Half} (h : 2500 < x.toNat) : clampForce x = 2500 ∧ forceClamped x = true :=
  ⟨min_eq_right h.le, decide_eq_true h⟩

theorem clampLimit_none : clampLimit 0xFFFF = none ∧ limitClamped 0xFFFF = false := by decide

/-- Below FFFFh a limit is clamped as a force is. -/
theorem clampLimit_of_lt {x : Half} (h : x.toNat < 0xFFFF) :
    clampLimit x = some (clampForce x) ∧ limitClamped x = forceClamped x := by
  have present : x ≠ 0xFFFF := by rintro rfl; exact absurd h (by decide)
  constructor
  · exact if_neg present
  · rw [limitClamped, bne_iff_ne.2 present, Bool.and_true, forceClamped]

/-! ## Lease period (R55) -/

/-- The flag is up exactly when the first step raises the value or the second lowers what the first left. -/
theorem leaseClamped_iff (row : ClassRow) (p : Byte) :
    leaseClamped row p = true ↔
      p.toNat < row.leaseMin.toNat ∨ row.leaseMax.toNat < max p.toNat row.leaseMin.toNat := by
  simp only [leaseClamped, Bool.or_eq_true, decide_eq_true_eq]

theorem clampLease_raised {row : ClassRow} {p : Byte} (bounds : row.leaseMin.toNat ≤ row.leaseMax.toNat)
    (h : p.toNat < row.leaseMin.toNat) : clampLease row p = row.leaseMin.toNat ∧ leaseClamped row p = true := by
  refine ⟨?_, (leaseClamped_iff row p).2 (.inl h)⟩
  rw [clampLease, max_eq_right h.le, min_eq_left bounds]

/-- What stands above the maximum after the first step is lowered to it, be it the value carried or the minimum. -/
theorem clampLease_lowered {row : ClassRow} {p : Byte} (h : row.leaseMax.toNat < max p.toNat row.leaseMin.toNat) :
    clampLease row p = row.leaseMax.toNat ∧ leaseClamped row p = true :=
  ⟨min_eq_right h.le, (leaseClamped_iff row p).2 (.inr h)⟩

theorem clampLease_unchanged {row : ClassRow} {p : Byte} (low : row.leaseMin.toNat ≤ p.toNat)
    (high : p.toNat ≤ row.leaseMax.toNat) : clampLease row p = p.toNat ∧ leaseClamped row p = false := by
  constructor
  · rw [clampLease, max_eq_left low, min_eq_left high]
  · rw [Bool.eq_false_iff, Ne, leaseClamped_iff, max_eq_left low]
    omega

/-! ## The staged lease period of an amendment (R16) -/

theorem foldl_qualified_lease (quals : List Qualifier) (r : Record) :
    (quals.foldl Record.qualified r).leasePeriod = r.leasePeriod
      ∧ (quals.foldl Record.qualified r).nextLease = r.nextLease := by
  induction quals generalizing r with
  | nil => exact ⟨rfl, rfl⟩
  | cons q quals ih =>
    obtain ⟨-, -, -, -, -, -, -, period, next, -⟩ := Record.qualified_fixed r q
    rw [List.foldl_cons, ← period, ← next]
    exact ih (r.qualified q)

theorem Record.stage_nextLease_eq_none_iff {r : Record} (p : Nat) (h : r.nextLease = none) :
    (r.stage (some p)).nextLease = none ↔ p = r.leasePeriod := by
  by_cases same : p = r.leasePeriod <;> simp [Record.stage, same, h]

/-- An amendment leaves no period staged exactly when the carried one is the period in force after the promotion. -/
theorem Record.amended_nextLease_eq_none_iff (r : Record) {x : Carried} {p : Nat} (quals : List Qualifier)
    (h : x.lease = some p) : (r.amended x quals).nextLease = none ↔ p = r.nextLease.getD r.leasePeriod := by
  obtain ⟨period, next⟩ := foldl_qualified_lease quals { r with force := x.force, limit := x.limit.getD r.limit }
  rw [Record.amended, h, Record.stage_nextLease_eq_none_iff p rfl, Record.promote, period, next]

/-! ## RUN and the class table (R167) -/

/-- No consistency check of RUN reads the class table, which holds the lease bounds. -/
theorem inconsistency_classRows (t : Settings) (rows : Vector ClassRow 6) :
    inconsistency { t with classRows := rows } = inconsistency t := rfl

end Sys2Proof.Machine

namespace Sys2Proof.Proofs
open Sys2Proof.Machine

/-- Settles O15: each clause is one case of a clamp, or says what an amendment or RUN does with the outcome. -/
theorem leaseClamp : Obligations.LeaseClamp := by
  unfold Obligations.LeaseClamp
  constructor
  · intro x
    refine ⟨clampForce_of_le, clampForce_of_gt, fun le => ?_, fun gt le => ?_, fun absent => ?_⟩
    · obtain ⟨limit, flag⟩ := clampLimit_of_lt (x := x) (by omega)
      obtain ⟨force, unflagged⟩ := clampForce_of_le le
      exact ⟨by rw [limit, force], by rw [flag, unflagged]⟩
    · obtain ⟨limit, flag⟩ := clampLimit_of_lt (x := x) (by omega)
      obtain ⟨force, flagged⟩ := clampForce_of_gt gt
      exact ⟨by rw [limit, force], by rw [flag, flagged]⟩
    · obtain rfl : x = 0xFFFF := BitVec.eq_of_toNat_eq absent
      exact clampLimit_none
  · intro row p low high
    refine ⟨clampLease_raised, fun _ above => clampLease_lowered (lt_max_of_lt_left above), clampLease_unchanged,
      fun crossed => clampLease_lowered (lt_max_of_lt_right crossed), fun positive zero => ?_,
      fun r data k quals carried => ?_, fun t c x => ?_⟩
    · subst zero
      exact (leaseClamped_iff row 0).2 (.inl positive)
    · subst carried
      exact r.amended_nextLease_eq_none_iff quals rfl
    · exact ⟨inconsistency_classRows t _, inconsistency_classRows t _⟩

end Sys2Proof.Proofs
end

section
/-! PROOF. The lookup in the characteristic tables: its three readings (R92), and the bounds and orders that follow (R93). -/

namespace Sys2Proof.Machine

/-! ## The value on a segment (R92) -/

/-- The rounded value at offset r on a segment of pitch p from a to b (the last case of R92). -/
def segmentValue (a b r p : Nat) : Int := a + (2 * ((b : Int) - a) * r + p) / (2 * p)

variable {a b c d r p : Nat}

/-- The value is the mean of the ends weighted by the distances, rounded half up: its numerator grows with each end. -/
theorem segmentValue_eq_weighted (a b r : Nat) (hp : 0 < p) :
    segmentValue a b r p = (2 * (a * ((p : Int) - r) + b * r) + p) / (2 * p) := by
  have pitch : (2 * p : Int) ≠ 0 := by omega
  rw [segmentValue, ← Int.mul_add_ediv_left _ _ pitch]
  congr 1
  ring

theorem segmentValue_mono (hp : 0 < p) (hr : r ≤ p) (start : a ≤ c) (stop : b ≤ d) :
    segmentValue a b r p ≤ segmentValue c d r p := by
  have left : (0 : Int) ≤ p - r := by omega
  rw [segmentValue_eq_weighted a b r hp, segmentValue_eq_weighted c d r hp]
  apply Int.ediv_le_ediv (by omega)
  gcongr

/-- A segment with equal ends is flat: a half added to the value is lost in the rounding. -/
theorem segmentValue_self (a r : Nat) (hp : 0 < p) : segmentValue a a r p = a := by
  have half : (p : Int) / (2 * p) = 0 := Int.ediv_eq_zero_of_lt (by omega) (by omega)
  simp [segmentValue, half]

theorem segmentValue_nonneg (hp : 0 < p) (hr : r ≤ p) : 0 ≤ segmentValue a b r p :=
  calc (0 : Int) = segmentValue 0 0 r p := (segmentValue_self 0 r hp).symm
    _ ≤ segmentValue a b r p := segmentValue_mono hp hr a.zero_le b.zero_le

theorem min_le_segmentValue (hp : 0 < p) (hr : r ≤ p) : (min a b : Nat) ≤ segmentValue a b r p :=
  calc ((min a b : Nat) : Int) = segmentValue (min a b) (min a b) r p := (segmentValue_self _ r hp).symm
    _ ≤ segmentValue a b r p := segmentValue_mono hp hr (min_le_left a b) (min_le_right a b)

theorem segmentValue_le_max (hp : 0 < p) (hr : r ≤ p) : segmentValue a b r p ≤ (max a b : Nat) :=
  calc segmentValue a b r p ≤ segmentValue (max a b) (max a b) r p :=
        segmentValue_mono hp hr (le_max_left a b) (le_max_right a b)
    _ = (max a b : Nat) := segmentValue_self _ r hp

/-! ## The three readings of a lookup (R92) -/

theorem pointAt_eq_getElem (points : Vector Half 17) (k : Fin 17) : pointAt points k = points[k].toNat := by
  simp [pointAt]

variable {o x : Nat}

theorem lookup_of_le_origin (points : Vector Half 17) (p : Nat) (low : x ≤ o) : lookup points o p x = points[0].toNat := by
  rw [lookup, if_pos low]
  exact pointAt_eq_getElem points 0

/-- The flat tail needs a positive pitch: at pitch 0 the quotient is 0, so no abscissa reaches point 16. -/
theorem lookup_of_end_le (points : Vector Half 17) (hp : 0 < p) (high : o + 16 * p ≤ x) :
    lookup points o p x = points[16].toNat := by
  have last : 16 ≤ (x - o) / p := (Nat.le_div_iff_mul_le hp).2 (by omega)
  rw [lookup, if_neg (by omega)]
  simp only [last, if_true]
  exact pointAt_eq_getElem points 16

theorem offset_lt (hp : 0 < p) {k : Nat} (segment : (x - o) / p = k) : x - o - k * p < p := by
  rw [← segment, mul_comm, ← Nat.mod_eq_sub_mul_div]
  exact Nat.mod_lt _ hp

theorem lookup_on_segment (points : Vector Half 17) (hp : 0 < p) (k : Fin 16) (above : o < x) (segment : (x - o) / p = k) :
    (lookup points o p x : Int) =
      segmentValue points[k.castSucc].toNat points[k.succ].toNat (x - o - k * p) p := by
  have inside : ¬ 16 ≤ k.val := by omega
  rw [lookup, if_neg (by omega)]
  simp only [segment, inside, if_false]
  rw [← pointAt_eq_getElem points k.castSucc, ← pointAt_eq_getElem points k.succ]
  exact Int.toNat_of_nonneg (segmentValue_nonneg hp (offset_lt hp segment).le)

/-- Where an abscissa stands does not depend on the points: at or below the origin, at or above the end, or on a segment. -/
theorem abscissa_cases (o x : Nat) (hp : 0 < p) :
    x ≤ o ∨ o + 16 * p ≤ x ∨ o < x ∧ ∃ k : Fin 16, (x - o) / p = k := by
  by_cases low : x ≤ o
  · exact .inl low
  · by_cases high : o + 16 * p ≤ x
    · exact .inr (.inl high)
    · exact .inr (.inr ⟨by omega, ⟨(x - o) / p, (Nat.div_lt_iff_lt_mul hp).2 (by omega)⟩, rfl⟩)

/-! ## Bounds and orders (R93) -/

theorem lookup_segment_bounds (points : Vector Half 17) (hp : 0 < p) (k : Fin 16) (above : o < x)
    (segment : (x - o) / p = k) :
    min points[k.castSucc].toNat points[k.succ].toNat ≤ lookup points o p x
      ∧ lookup points o p x ≤ max points[k.castSucc].toNat points[k.succ].toNat := by
  have value := lookup_on_segment points hp k above segment
  have offset := (offset_lt hp segment).le
  constructor
  · exact_mod_cast value ▸ min_le_segmentValue hp offset
  · exact_mod_cast value ▸ segmentValue_le_max hp offset

/-- The order of two tables, point by point, is the order of their lookups. -/
theorem lookup_mono {low high : Vector Half 17} (hp : 0 < p) (ordered : ∀ k : Fin 17, low[k].toNat ≤ high[k].toNat) (o x : Nat) :
    lookup low o p x ≤ lookup high o p x := by
  rcases abscissa_cases o x hp with below | beyond | ⟨above, k, segment⟩
  · rw [lookup_of_le_origin low p below, lookup_of_le_origin high p below]
    exact ordered 0
  · rw [lookup_of_end_le low hp beyond, lookup_of_end_le high hp beyond]
    exact ordered 16
  · have values := segmentValue_mono hp (offset_lt hp segment).le (ordered k.castSucc) (ordered k.succ)
    rw [← lookup_on_segment low hp k above segment, ← lookup_on_segment high hp k above segment] at values
    exact_mod_cast values

theorem lookup_replicate (v : Half) (o x : Nat) (hp : 0 < p) : lookup (Vector.replicate 17 v) o p x = v.toNat := by
  rcases abscissa_cases o x hp with below | beyond | ⟨above, k, segment⟩
  · simp [lookup_of_le_origin _ p below]
  · simp [lookup_of_end_le _ hp beyond]
  · have value := lookup_on_segment (Vector.replicate 17 v) hp k above segment
    simpa [segmentValue_self _ _ hp] using value

/-- A bound below every point is a flat table in order with this one, so it bounds every lookup. -/
theorem le_lookup {points : Vector Half 17} {v : Half} (hp : 0 < p) (bound : ∀ i : Fin 17, v.toNat ≤ points[i].toNat)
    (o x : Nat) : v.toNat ≤ lookup points o p x := by
  rw [← lookup_replicate v o x hp]
  exact lookup_mono hp (by simpa using bound) o x

theorem lookup_le {points : Vector Half 17} {v : Half} (hp : 0 < p) (bound : ∀ i : Fin 17, points[i].toNat ≤ v.toNat)
    (o x : Nat) : lookup points o p x ≤ v.toNat := by
  rw [← lookup_replicate v o x hp]
  exact lookup_mono hp (by simpa using bound) o x

theorem lookup_between_points (points : Vector Half 17) (o x : Nat) (hp : 0 < p) :
    ∃ j k : Fin 17, (∀ i : Fin 17, points[j].toNat ≤ points[i].toNat ∧ points[i].toNat ≤ points[k].toNat)
      ∧ points[j].toNat ≤ lookup points o p x ∧ lookup points o p x ≤ points[k].toNat := by
  obtain ⟨j, least⟩ := Finite.exists_min fun i : Fin 17 => points[i].toNat
  obtain ⟨k, greatest⟩ := Finite.exists_max fun i : Fin 17 => points[i].toNat
  exact ⟨j, k, fun i => ⟨least i, greatest i⟩, le_lookup hp least o x, lookup_le hp greatest o x⟩

/-! ## The exhaust tables after RUN (R167 check 5) -/

theorem exhaustFault_eq_none_iff (t : Settings) :
    exhaustFault t = none ↔ ∀ k : Fin 17, t.stage1Points[k].toNat ≤ t.stage2Points[k].toNat := by
  simp [exhaustFault, List.find?_eq_none]

theorem exhaustFault_eq_none_of_consistent {t : Settings} (consistent : inconsistency t = none) : exhaustFault t = none := by
  cases fault : exhaustFault t with
  | none => rfl
  | some k =>
    rw [inconsistency, fault] at consistent
    split_ifs at consistent

end Sys2Proof.Machine

namespace Sys2Proof.Proofs
open Sys2Proof.Machine

/-- Settles O41: each clause is a reading of the lookup or follows from its order law. -/
theorem lookupLaws : Obligations.LookupLaws := by
  unfold Obligations.LookupLaws
  intro a b o p x hp
  exact ⟨lookup_between_points a o x hp, lookup_segment_bounds a hp, fun ordered => lookup_mono hp ordered o x,
    lookup_of_le_origin a p, lookup_of_end_le a hp, fun t consistent =>
      lookup_mono hp ((exhaustFault_eq_none_iff t).1 (exhaustFault_eq_none_of_consistent consistent)) o x⟩

end Sys2Proof.Proofs
end

section
/-! PROOF. A sharing round: its floors, its rounding remainders and where the units left over go (R119). -/

namespace Sys2Proof.Machine
open Finset

/-! ## The parts of a round -/

/-- The axles of a set, as a finite set to count and sum over. -/
def members (a : AxleSet) : Finset AxleId := univ.filter fun j => a[j] = true

/-- The sum of the weights of a round. -/
def totalWeight (w : Vector Nat 3) (a : AxleSet) : Nat := sum3 (weightsIn w a)

/-- The floors of the exact shares of a round. -/
def floorShares (w : Vector Nat 3) (a : AxleSet) (q : Nat) : Vector Nat 3 :=
  Vector.ofFn fun j => q * (weightsIn w a)[j] / totalWeight w a

/-- The rounding remainders of a round. -/
def remainders (w : Vector Nat 3) (a : AxleSet) (q : Nat) : Vector Nat 3 :=
  Vector.ofFn fun j => q * (weightsIn w a)[j] % totalWeight w a

/-- The units that the floors of a round leave over. -/
def leftOver (w : Vector Nat 3) (a : AxleSet) (q : Nat) : Nat := q - sum3 (floorShares w a q)

/-- The candidates that receive one of n units given out by rounding remainder. -/
def receivers (a : AxleSet) (rem : Vector Nat 3) (n : Nat) : Finset AxleId := (members a).filter fun j => rankOf a rem j < n

/-- The order in which the units are given out: the larger remainder first, among equals the lower axle (R119). -/
abbrev Before (rem : Vector Nat 3) (k j : AxleId) : Prop := rem[j] < rem[k] ∨ rem[k] = rem[j] ∧ k < j

variable {w rem : Vector Nat 3} {a : AxleSet} {q n : Nat} {i j k : AxleId}

@[simp] theorem mem_members : j ∈ members a ↔ a[j] = true := by simp [members]

@[simp] theorem mem_receivers : j ∈ receivers a rem n ↔ a[j] = true ∧ rankOf a rem j < n := by simp [receivers]

theorem card_members (a : AxleSet) : (members a).card = a[0].toNat + a[1].toNat + a[2].toNat := by
  rw [members, card_filter, Fin.sum_univ_three]
  simp [Bool.toNat, Bool.cond_eq_ite]

theorem sum3_eq_sum (x : Vector Nat 3) : sum3 x = ∑ j : AxleId, x[j] := by simp [sum3, Fin.sum_univ_three]

theorem floorShares_getElem (w : Vector Nat 3) (a : AxleSet) (q : Nat) (j : AxleId) :
    (floorShares w a q)[j] = q * (weightsIn w a)[j] / totalWeight w a := by simp [floorShares]

theorem remainders_getElem (w : Vector Nat 3) (a : AxleSet) (q : Nat) (j : AxleId) :
    (remainders w a q)[j] = q * (weightsIn w a)[j] % totalWeight w a := by simp [remainders]

theorem roundShares_getElem (w : Vector Nat 3) (a : AxleSet) (q : Nat) (j : AxleId) :
    (roundShares w a q)[j] =
      (floorShares w a q)[j] + if j ∈ receivers a (remainders w a q) (leftOver w a q) then 1 else 0 := by
  simp [roundShares, floorShares, remainders, leftOver, totalWeight]

theorem weightsIn_eq_zero (h : a[j] = false ∨ w[j] = 0) : (weightsIn w a)[j] = 0 := by
  rcases h with h | h <;> simp_all [weightsIn]

/-! ## The order of the candidates and their ranks -/

theorem before_irrefl (rem : Vector Nat 3) (j : AxleId) : ¬ Before rem j j := by simp [Before]

theorem before_trans (first : Before rem i j) (second : Before rem j k) : Before rem i k := by
  simp only [Before, Fin.lt_def] at *
  omega

theorem before_of_ne (ne : j ≠ k) : Before rem j k ∨ Before rem k j := by
  have order := lt_or_gt_of_ne ne
  simp only [Before, Fin.lt_def] at *
  omega

/-- A rank counts the candidates that come before. -/
theorem rankOf_eq_card (a : AxleSet) (rem : Vector Nat 3) (j : AxleId) :
    rankOf a rem j = ((members a).filter (Before rem · j)).card := by
  rw [rankOf, ← List.toFinset_card_of_nodup ((List.nodup_finRange 3).filter _)]
  congr 1
  ext k
  rw [List.mem_toFinset, List.mem_filter, mem_filter, mem_members]
  simp [Before]

/-- Who comes before a candidate also comes before those after it, and so does the candidate itself. -/
theorem rankOf_lt_of_before (candidate : a[k] = true) (h : Before rem k j) : rankOf a rem k < rankOf a rem j := by
  simp only [rankOf_eq_card]
  apply card_lt_card
  rw [ssubset_iff_of_subset (monotone_filter_right _ fun i _ earlier => before_trans earlier h)]
  exact ⟨k, by simp [candidate, h], by simp [before_irrefl]⟩

theorem rankOf_lt_card (candidate : a[j] = true) : rankOf a rem j < (members a).card := by
  rw [rankOf_eq_card]
  exact card_lt_card (filter_ssubset.2 ⟨j, mem_members.2 candidate, before_irrefl rem j⟩)

theorem rankOf_injOn (a : AxleSet) (rem : Vector Nat 3) : Set.InjOn (rankOf a rem) (members a) := by
  intro j hj k hk same
  by_contra ne
  rcases before_of_ne (rem := rem) ne with h | h
  · exact (rankOf_lt_of_before (mem_members.1 hj) h).ne same
  · exact (rankOf_lt_of_before (mem_members.1 hk) h).ne' same

/-- The ranks of the candidates are the numbers below how many there are, each taken once. -/
theorem image_rankOf (a : AxleSet) (rem : Vector Nat 3) : (members a).image (rankOf a rem) = range (members a).card := by
  apply eq_of_subset_of_card_le
  · intro r hr
    obtain ⟨j, hj, rfl⟩ := mem_image.1 hr
    exact mem_range.2 (rankOf_lt_card (mem_members.1 hj))
  · rw [card_range, card_image_of_injOn (rankOf_injOn a rem)]

/-- As many candidates receive a unit as there are units, when there are candidates enough. -/
theorem card_receivers (enough : n ≤ (members a).card) : (receivers a rem n).card = n :=
  calc (receivers a rem n).card = ((receivers a rem n).image (rankOf a rem)).card :=
        (card_image_of_injOn ((rankOf_injOn a rem).mono (filter_subset _ _))).symm
    _ = ((range (members a).card).filter (· < n)).card := by rw [← image_rankOf a rem, filter_image]; rfl
    _ = (range n).card := by congr 1; ext r; simp; omega
    _ = n := card_range n

/-! ## The units left over -/

theorem floors_add_remainders (w : Vector Nat 3) (a : AxleSet) (q : Nat) :
    totalWeight w a * sum3 (floorShares w a q) + ∑ j : AxleId, (remainders w a q)[j] = totalWeight w a * q :=
  calc totalWeight w a * sum3 (floorShares w a q) + ∑ j : AxleId, (remainders w a q)[j]
      = ∑ j : AxleId, (totalWeight w a * (floorShares w a q)[j] + (remainders w a q)[j]) := by
        rw [sum3_eq_sum, mul_sum, sum_add_distrib]
    _ = ∑ j : AxleId, q * (weightsIn w a)[j] :=
        sum_congr rfl fun j _ => by rw [floorShares_getElem, remainders_getElem, Nat.div_add_mod]
    _ = totalWeight w a * q := by rw [← mul_sum, ← sum3_eq_sum, mul_comm, totalWeight]

theorem remainders_lt (weight : 0 < totalWeight w a) (q : Nat) (j : AxleId) : (remainders w a q)[j] < totalWeight w a := by
  rw [remainders_getElem]
  exact Nat.mod_lt _ weight

theorem remainders_eq_zero (h : a[j] = false ∨ w[j] = 0) : (remainders w a q)[j] = 0 := by
  rw [remainders_getElem, weightsIn_eq_zero h, mul_zero, Nat.zero_mod]

theorem members_nonempty (weight : 0 < totalWeight w a) : (members a).Nonempty := by
  rw [totalWeight, sum3_eq_sum] at weight
  obtain ⟨j, -, positive⟩ := exists_ne_zero_of_sum_ne_zero weight.ne'
  refine ⟨j, mem_members.2 ?_⟩
  by_contra out
  exact positive (weightsIn_eq_zero (.inl (Bool.eq_false_iff.2 out)))

theorem floors_le (weight : 0 < totalWeight w a) (q : Nat) : sum3 (floorShares w a q) ≤ q :=
  Nat.le_of_mul_le_mul_left (Nat.le.intro (floors_add_remainders w a q)) weight

/-- The remainders together are the weight of the units left over, and only candidates have one. -/
theorem sum_remainders (w : Vector Nat 3) (a : AxleSet) (q : Nat) :
    ∑ j ∈ members a, (remainders w a q)[j] = totalWeight w a * leftOver w a q := by
  have all := floors_add_remainders w a q
  have within : ∑ j ∈ members a, (remainders w a q)[j] = ∑ j : AxleId, (remainders w a q)[j] :=
    sum_subset (subset_univ _) fun j _ out => remainders_eq_zero (.inl (by simpa using out))
  rw [within, leftOver, Nat.mul_sub]
  omega

/-- Each remainder is below the total weight, so the units left over are fewer than the candidates. -/
theorem leftOver_lt_card (weight : 0 < totalWeight w a) (q : Nat) : leftOver w a q < (members a).card := by
  apply Nat.lt_of_mul_lt_mul_left (a := totalWeight w a)
  calc totalWeight w a * leftOver w a q = ∑ j ∈ members a, (remainders w a q)[j] := (sum_remainders w a q).symm
    _ < ∑ _j ∈ members a, totalWeight w a :=
        sum_lt_sum_of_nonempty (members_nonempty weight) fun j _ => remainders_lt weight q j
    _ = totalWeight w a * (members a).card := by rw [sum_const, smul_eq_mul, mul_comm]

/-- The candidates with a remainder come before one without, and they are enough for the units left over. -/
theorem leftOver_le_rankOf (weight : 0 < totalWeight w a) (exact : (remainders w a q)[j] = 0) :
    leftOver w a q ≤ rankOf a (remainders w a q) j := by
  rw [rankOf_eq_card]
  apply Nat.le_of_mul_le_mul_left _ weight
  calc totalWeight w a * leftOver w a q = ∑ k ∈ members a, (remainders w a q)[k] := (sum_remainders w a q).symm
    _ = ∑ k ∈ (members a).filter (Before (remainders w a q) · j), (remainders w a q)[k] := by
        refine (sum_filter_of_ne fun k _ positive => .inl ?_).symm
        rw [exact]
        exact Nat.pos_of_ne_zero positive
    _ ≤ ∑ _k ∈ (members a).filter (Before (remainders w a q) · j), totalWeight w a :=
        sum_le_sum fun k _ => (remainders_lt weight q k).le
    _ = totalWeight w a * ((members a).filter (Before (remainders w a q) · j)).card := by
        rw [sum_const, smul_eq_mul, mul_comm]

/-! ## The shares of a round -/

theorem roundShares_eq_floor_iff :
    (roundShares w a q)[j] = (floorShares w a q)[j] ↔ j ∉ receivers a (remainders w a q) (leftOver w a q) := by
  rw [roundShares_getElem]
  simp

theorem roundShares_eq_succ_iff :
    (roundShares w a q)[j] = (floorShares w a q)[j] + 1 ↔ j ∈ receivers a (remainders w a q) (leftOver w a q) := by
  rw [roundShares_getElem]
  simp

theorem sum_roundShares (weight : 0 < totalWeight w a) (q : Nat) : sum3 (roundShares w a q) = q :=
  calc sum3 (roundShares w a q)
      = sum3 (floorShares w a q) + (receivers a (remainders w a q) (leftOver w a q)).card := by
        simp only [sum3_eq_sum, roundShares_getElem, sum_add_distrib, sum_boole, filter_univ_mem, Nat.cast_id]
    _ = sum3 (floorShares w a q) + leftOver w a q := by rw [card_receivers (leftOver_lt_card weight q).le]
    _ = q := Nat.add_sub_of_le (floors_le weight q)

/-- An axle that is no candidate or has no weight has an exact share of 0, and ranks too low for a unit. -/
theorem roundShares_eq_zero (weight : 0 < totalWeight w a) (h : a[j] = false ∨ w[j] = 0) : (roundShares w a q)[j] = 0 := by
  have last := leftOver_le_rankOf weight (remainders_eq_zero (q := q) h)
  rw [roundShares_eq_floor_iff.2 fun received => last.not_gt (mem_receivers.1 received).2, floorShares_getElem,
    weightsIn_eq_zero h, mul_zero, Nat.zero_div]

theorem roundShares_cases (w : Vector Nat 3) (a : AxleSet) (q : Nat) (j : AxleId) :
    (roundShares w a q)[j] = (floorShares w a q)[j]
      ∨ a[j] = true ∧ (roundShares w a q)[j] = (floorShares w a q)[j] + 1 := by
  by_cases received : j ∈ receivers a (remainders w a q) (leftOver w a q)
  · exact .inr ⟨(mem_receivers.1 received).1, roundShares_eq_succ_iff.2 received⟩
  · exact .inl (roundShares_eq_floor_iff.2 received)

/-- A candidate passed over comes after every one that received a unit: before it, it would have the lower rank. -/
theorem before_of_received (candidate : a[k] = true) (more : (roundShares w a q)[j] = (floorShares w a q)[j] + 1)
    (floor : (roundShares w a q)[k] = (floorShares w a q)[k]) : Before (remainders w a q) j k := by
  have received := roundShares_eq_succ_iff.1 more
  have passedOver := roundShares_eq_floor_iff.1 floor
  have ne : j ≠ k := by rintro rfl; exact passedOver received
  refine (before_of_ne ne).resolve_right fun earlier => passedOver (mem_receivers.2 ⟨candidate, ?_⟩)
  exact (rankOf_lt_of_before candidate earlier).trans (mem_receivers.1 received).2

theorem sharingRounds_of_weightless (weightless : totalWeight w a = 0) (csvc shares : Vector Nat 3) (fuel q : Nat) :
    sharingRounds w csvc (fuel + 1) a q shares = { shares := shares, unplaced := q } := if_pos weightless

end Sys2Proof.Machine

namespace Sys2Proof.Proofs
open Sys2Proof.Machine

/-- Settles O37: the units left over are fewer than the candidates, whose ranks are distinct, so each goes to one of them. -/
theorem sharingRound : Obligations.SharingRound := by
  unfold Obligations.SharingRound
  intro w a q x total got
  have floor (j : AxleId) : q * x[j] / total = (floorShares w a q)[j] := (floorShares_getElem w a q j).symm
  have rem (j : AxleId) : q * x[j] % total = (remainders w a q)[j] := (remainders_getElem w a q j).symm
  refine ⟨fun weight => ⟨sum_roundShares weight q, ?_, fun j => roundShares_eq_zero weight, fun j => ?_,
    fun j k candidate more same => ?_⟩,
    fun weightless csvc shares fuel => sharingRounds_of_weightless weightless csvc shares fuel q⟩
  · rw [← card_members]
    exact leftOver_lt_card weight q
  · rw [floor]
    exact roundShares_cases w a q j
  · rw [floor] at more same
    rw [rem, rem]
    exact (before_of_received candidate more same).imp_right (.imp_left Eq.symm)

end Sys2Proof.Proofs
end

section
/-! PROOF. The codes and masks (R27, R172, R176), the fields that bytes carry (00, Conventions), and the layouts of the
vehicle-link identifier, the summaries and the record report (R173, R177 to R179). -/

namespace Sys2Proof.Machine
open Sys2Proof.Claims

/-! ## Codes and masks (R172) -/

theorem RecClass.code_lt (c : RecClass) : c.code < 6 := by cases c <;> decide

theorem recStateCode_lt (x : Option RecState) : recStateCode x < 5 := by rcases x with _ | _ | _ | _ | _ <;> decide

theorem Cover.code_lt (c : Cover) : c.code < 3 := by cases c <;> decide

theorem Mode.code_lt (m : Mode) : m.code < 6 := by cases m <;> decide

theorem Band.code_lt (b : Band) : b.code < 3 := by cases b <;> decide

theorem RecClass.ofCode_eq_some_iff (n : Nat) (c : RecClass) : RecClass.ofCode n = some c ↔ c.code = n := by
  constructor
  · intro h
    unfold RecClass.ofCode at h
    split at h <;> cases h <;> rfl
  · rintro rfl
    cases c <;> rfl

theorem QualKind.ofCode_eq_some_iff (n : Nat) (k : QualKind) :
    QualKind.ofCode n = some k ↔ (n, k) ∈ [(1, QualKind.sources), (2, .axles), (3, .onset), (4, .inhibit)] := by
  constructor
  · intro h
    unfold QualKind.ofCode at h
    split at h <;> cases h <;> decide
  · intro h
    simp only [List.mem_cons, Prod.mk.injEq, List.not_mem_nil, or_false] at h
    rcases h with ⟨rfl, rfl⟩ | ⟨rfl, rfl⟩ | ⟨rfl, rfl⟩ | ⟨rfl, rfl⟩ <;> rfl

theorem SourceSet.mask_eq_sum_ite (x : SourceSet) :
    x.mask = (if x.ret = true then 1 else 0) + (if x.exh = true then 2 else 0) + (if x.svc = true then 4 else 0) := by
  simp [SourceSet.mask, Bool.toNat, Bool.cond_eq_ite]

theorem SourceSet.mask_lt (x : SourceSet) : x.mask < 8 := by
  rw [SourceSet.mask_eq_sum_ite]
  split_ifs <;> decide

theorem axleSetOfMask_getElem (m : Half) (j : AxleId) : (axleSetOfMask m)[j] = m.getLsbD j := by simp [axleSetOfMask]

theorem axleMask_eq_sumOver (x : AxleSet) : axleMask x = sumOver x fun j => 2 ^ j.val := by
  simp [axleMask, sumOver, Bool.toNat, Bool.cond_eq_ite]

theorem axleMask_lt (x : AxleSet) : axleMask x < 8 := by
  rw [axleMask_eq_sumOver, sumOver]
  split_ifs <;> decide

/-! ## The numbers that bytes carry (00, Conventions) -/

@[simp] theorem toNat_byte (n : Nat) : (byte n).toNat = n % 256 := BitVec.toNat_ofNat n 8

theorem toNat_byte_of_lt {n : Nat} (h : n < 256) : (byte n).toNat = n := (toNat_byte n).trans (Nat.mod_eq_of_lt h)

theorem toNat_append_eq_add {m n : Nat} (x : BitVec m) (y : BitVec n) : (x ++ y).toNat = x.toNat * 2 ^ n + y.toNat := by
  rw [BitVec.toNat_append, ← Nat.shiftLeft_add_eq_or_of_lt y.isLt, Nat.shiftLeft_eq]

theorem byteAt_of_mem {data : List Byte} {k : Nat} {b : Byte} (h : b ∈ data[k]?) : byteAt data k = b := by
  rw [byteAt, List.getD_eq_getElem?_getD, Option.mem_def.1 h, Option.getD_some]

theorem toNat_halfAt (data : List Byte) (k : Nat) :
    (halfAt data k).toNat = (byteAt data k).toNat + 256 * (byteAt data (k + 1)).toNat := by
  rw [halfAt, toNat_append_eq_add]
  omega

theorem halfOf_eq (n : Nat) : halfOf n = [byte n, byte (n / 256)] := by
  simp only [halfOf, halfBytes, List.cons.injEq, and_true, ← BitVec.toNat_inj, toNat_byte, BitVec.toNat_setWidth,
    BitVec.toNat_ushiftRight, BitVec.toNat_ofNat, Nat.shiftRight_eq_div_pow]
  omega

/-- The two bytes of a number of 16 bits carry it. -/
theorem toNat_bytes {n : Nat} (h : n < 65536) : (byte n).toNat + 256 * (byte (n / 256)).toNat = n := by
  simp only [toNat_byte]
  omega

/-- FFFFh stands for an absent number of 16 bits (R177). -/
theorem bytes_getD {x : Option Nat} (h : ∀ n ∈ x, n < 65536) :
    (x = none → byte (x.getD 0xFFFF) = 0xFF ∧ byte (x.getD 0xFFFF / 256) = 0xFF)
      ∧ ∀ n ∈ x, (byte (x.getD 0xFFFF)).toNat + 256 * (byte (x.getD 0xFFFF / 256)).toNat = n := by
  constructor
  · rintro rfl
    decide
  · rintro n rfl
    exact toNat_bytes (h n rfl)

theorem toNat_threeBytes (x : BitVec 24) :
    (x.setWidth 8).toNat + 256 * ((x >>> 8).setWidth 8).toNat + 65536 * ((x >>> 16).setWidth 8).toNat = x.toNat := by
  simp only [BitVec.toNat_setWidth, BitVec.toNat_ushiftRight, Nat.shiftRight_eq_div_pow]
  omega

/-! ## The vehicle-link identifier (R173) -/

theorem toNat_vehicleId {tag : Half} (kind node handle : BitVec 4) (h : tag.toNat < 8192) :
    (vehicleId tag kind node handle).toNat
      = tag.toNat * 65536 + kind.toNat * 4096 + node.toNat * 256 + handle.toNat * 16 := by
  have whole : (tag.setWidth 13).toNat = tag.toNat := Nat.mod_eq_of_lt h
  simp only [vehicleId, toNat_append_eq_add, whole, BitVec.toNat_ofNat]
  omega

/-! ## The summaries (R178, R179) -/

theorem SummaryA.data_eq (a : SummaryA) :
    a.data = [a.count, byte (a.mode.code + 16 * a.stage + 64 * a.dutyWarn.toNat + 128 * a.fallback.toNat),
      byte a.fgov, byte (a.fgov / 256), byte a.fcmd, byte (a.fcmd / 256),
      byte ((a.governing.map Fin.val).getD 0xFF), 0] := by
  rw [SummaryA.data, halfOf_eq, halfOf_eq]
  rfl

theorem summaryA_statusByte (m : Mode) (stage : Fin 3) (warn fallback : Bool) :
    let b := (byte (m.code + 16 * stage + 64 * warn.toNat + 128 * fallback.toNat)).toNat
    b % 8 = m.code ∧ b / 8 % 2 = 0 ∧ b / 16 % 4 = stage.val ∧ b / 64 % 2 = warn.toNat ∧ b / 128 = fallback.toNat := by
  have := m.code_lt
  have := warn.toNat_lt
  have := fallback.toNat_lt
  simp only [toNat_byte]
  omega

/-- FFh stands for no slot (R178). -/
theorem slotByte (x : Option SlotId) :
    (x = none → byte ((x.map Fin.val).getD 0xFF) = 0xFF)
      ∧ ∀ i ∈ x, (byte ((x.map Fin.val).getD 0xFF)).toNat = i.val := by
  constructor
  · rintro rfl
    rfl
  · rintro i rfl
    exact toNat_byte_of_lt (i.isLt.trans (by decide))

/-- The last 24 bits of SUMMARY B: the balance, the hottest axle's figure and a bit 0. -/
def SummaryB.tail (b : SummaryB) : BitVec 24 :=
  0#1 ++ BitVec.ofNat 10 b.hottest.figure ++ BitVec.ofInt 13 b.balance

theorem SummaryB.data_eq (b : SummaryB) :
    let fret := b.fret % 4096 + 4096 * b.hottest.band.code + 16384 * b.waiting.toNat
    let sumF := b.sumF % 4096 + 4096 * b.listed
    b.data = [b.count, byte fret, byte (fret / 256), byte sumF, byte (sumF / 256),
      b.tail.setWidth 8, (b.tail >>> 8).setWidth 8, (b.tail >>> 16).setWidth 8] := by
  simp only [SummaryB.data, halfOf_eq]
  rfl

theorem SummaryB.toNat_tail {b : SummaryB} (h : b.hottest.figure < 1024) :
    (b.tail.toNat : Int) = b.balance % 8192 + 8192 * (b.hottest.figure : Int) := by
  have figure : b.hottest.figure % 2 ^ 10 = b.hottest.figure := Nat.mod_eq_of_lt h
  simp only [SummaryB.tail, toNat_append_eq_add, BitVec.toNat_ofNat, BitVec.toNat_ofInt, figure]
  omega

/-! ## The record report (R177) -/

theorem Record.reportPart1_eq (r : Record) (i : SlotId) (version : BitVec 8) :
    r.reportPart1 i version = [byte i, version, byte (r.owner + 16 * r.cls.code + 128 * r.shared.toNat),
      byte (recStateCode (some r.state) + 8 * r.cover.code + 32 * axleMask r.exclusion),
      byte r.force, byte (r.force / 256), byte (r.limit.getD 0xFFFF), byte (r.limit.getD 0xFFFF / 256)] := by
  rw [Record.reportPart1, halfOf_eq, halfOf_eq]
  rfl

theorem Record.reportPart2_eq (r : Record) (i : SlotId) (version : BitVec 8) (countdown : Nat) :
    r.reportPart2 i version countdown = [byte (128 + i), version,
      byte (r.sources.mask + 16 * (r.inhibit.getD .empty).mask),
      byte r.leasePeriod, byte (r.nextLease.getD 0), byte (countdown / 10),
      byte (r.onset.getD 0xFFFF), byte (r.onset.getD 0xFFFF / 256)] := by
  rw [Record.reportPart2, halfOf_eq, Nat.add_comm]
  rfl

theorem report_ownerByte (owner : Node) (c : RecClass) (shared : Bool) :
    let b := (byte (owner + 16 * c.code + 128 * shared.toNat)).toNat
    b % 16 = owner.val ∧ b / 16 % 8 = c.code ∧ b / 128 = shared.toNat := by
  have := c.code_lt
  have := shared.toNat_lt
  simp only [toNat_byte]
  omega

theorem report_stateByte (x : Option RecState) (c : Cover) (exclusion : AxleSet) :
    let b := (byte (recStateCode x + 8 * c.code + 32 * axleMask exclusion)).toNat
    b % 8 = recStateCode x ∧ b / 8 % 4 = c.code ∧ b / 32 = axleMask exclusion := by
  have := recStateCode_lt x
  have := c.code_lt
  have := axleMask_lt exclusion
  simp only [toNat_byte]
  omega

theorem report_sourcesByte (sources inhibit : SourceSet) :
    let b := (byte (sources.mask + 16 * inhibit.mask)).toNat
    b % 8 = sources.mask ∧ b / 8 % 2 = 0 ∧ b / 128 = 0 ∧ b / 16 % 8 = inhibit.mask := by
  have := sources.mask_lt
  have := inhibit.mask_lt
  simp only [toNat_byte]
  omega

end Sys2Proof.Machine

namespace Sys2Proof.Proofs
open Sys2Proof.Machine

theorem summaryA_layout (a : SummaryA) (fgov : a.fgov < 65536) (fcmd : a.fcmd < 65536) :
    ∃ b1 b2 b3 b4 b5 b6 : Byte, a.data = [a.count, b1, b2, b3, b4, b5, b6, 0]
      ∧ b1.toNat % 8 = a.mode.code ∧ b1.toNat / 8 % 2 = 0 ∧ b1.toNat / 16 % 4 = a.stage.val
      ∧ b1.toNat / 64 % 2 = a.dutyWarn.toNat ∧ b1.toNat / 128 = a.fallback.toNat
      ∧ b2.toNat + 256 * b3.toNat = a.fgov ∧ b4.toNat + 256 * b5.toNat = a.fcmd
      ∧ (a.governing = none → b6 = 0xFF) ∧ ∀ i ∈ a.governing, b6.toNat = i.val := by
  obtain ⟨mode, zero, stage, warn, fallback⟩ := summaryA_statusByte a.mode a.stage a.dutyWarn a.fallback
  exact ⟨_, _, _, _, _, _, a.data_eq, mode, zero, stage, warn, fallback, toNat_bytes fgov, toNat_bytes fcmd,
    slotByte a.governing⟩

theorem summaryB_layout (b : SummaryB) (fret : b.fret < 4096) (sumF : b.sumF < 4096) (listed : b.listed ≤ 7)
    (figure : b.hottest.figure < 1024) :
    ∃ b1 b2 b3 b4 b5 b6 b7 : Byte, b.data = [b.count, b1, b2, b3, b4, b5, b6, b7]
      ∧ b1.toNat + 256 * b2.toNat = b.fret + 4096 * b.hottest.band.code + 16384 * b.waiting.toNat
      ∧ b3.toNat + 256 * b4.toNat = b.sumF + 4096 * b.listed
      ∧ ((b5.toNat + 256 * b6.toNat + 65536 * b7.toNat : Nat) : Int)
          = b.balance % 8192 + 8192 * (b.hottest.figure : Int) := by
  have band := b.hottest.band.code_lt
  have waiting := b.waiting.toNat_lt
  refine ⟨_, _, _, _, _, _, _, b.data_eq, ?_, ?_, ?_⟩
  · rw [toNat_bytes (by omega), Nat.mod_eq_of_lt fret]
  · rw [toNat_bytes (by omega), Nat.mod_eq_of_lt sumF]
  · rw [toNat_threeBytes, SummaryB.toNat_tail figure]

/-- Settles O23: each code is read off its table, each mask is the sum of its bits, and each field of a frame is below the
weight of the next. -/
theorem frameLayouts : Obligations.FrameLayouts := by
  unfold Obligations.FrameLayouts
  exact ⟨rfl, rfl, rfl, rfl, rfl, rfl, rfl, RecClass.ofCode_eq_some_iff, QualKind.ofCode_eq_some_iff,
    fun m => ⟨rfl, axleSetOfMask_getElem m⟩, SourceSet.mask_eq_sum_ite, axleMask_eq_sumOver,
    fun data k => ⟨fun _ => byteAt_of_mem, toNat_halfAt data k⟩, fun _ => toNat_vehicleId, summaryA_layout,
    fun b fret sumF listed figure _ _ => summaryB_layout b fret sumF listed figure⟩

/-- Settles O24: the numbers of a record that fits its class are below the ends of their fields. -/
theorem reportLayout : Obligations.ReportLayout := by
  unfold Obligations.ReportLayout
  intro r t i version countdown fits inTime
  obtain ⟨force, limit, -, -, inhibit, -, onset, -, -, lease, next⟩ := fits
  obtain ⟨owner, cls, shared⟩ := report_ownerByte r.owner r.cls r.shared
  obtain ⟨state, cover, exclusion⟩ := report_stateByte (some r.state) r.cover r.exclusion
  obtain ⟨sources, bit3, bit7, mask⟩ := report_sourcesByte r.sources (r.inhibit.getD .empty)
  obtain ⟨noLimit, someLimit⟩ := bytes_getD fun l hl => (limit l hl).trans_lt (by decide : 2500 < 65536)
  obtain ⟨noOnset, someOnset⟩ := bytes_getD fun o ho => (onset o ho).1.trans_lt (by decide : 20000 < 65536)
  have nextLease : r.nextLease.getD 0 ≤ 255 := by
    cases staged : r.nextLease with
    | none => exact Nat.zero_le _
    | some p => exact (next p staged).2
  refine ⟨_, _, _, _, _, _, _, _, _, _, _, _, r.reportPart1_eq i version, r.reportPart2_eq i version countdown,
    owner, cls, shared, state, cover, exclusion, toNat_bytes (by omega), noLimit, someLimit, sources, bit3, bit7,
    fun noInhibit => ?_, fun x someInhibit => ?_, fun demand => ?_,
    toNat_byte_of_lt (by omega), toNat_byte_of_lt (by omega), toNat_byte_of_lt (by omega), noOnset, someOnset⟩
  · rw [mask, noInhibit]
    rfl
  · rw [mask, Option.mem_def.1 someInhibit, Option.getD_some]
  · rwa [demand, Option.isSome_eq_false_iff, Option.isNone_iff_eq_none] at inhibit

end Sys2Proof.Proofs
end

section
/-! PROOF. What admission, departure and the suppression flag do to the slots and to the arbiter's structures, in the words of
the statements (R5, R58 to R61). -/

namespace Sys2Proof.Machine
open Sys2Proof.Claims

theorem getElem_set_fin {α : Type} {n : Nat} (v : Vector α n) (i j : Fin n) (x : α) :
    (v.set i x)[j] = if i = j then x else v[j] := by
  simp [Vector.getElem_set, Fin.ext_iff]

variable {s : State} {i j : SlotId} {r : Record}

/-! ## Collision records and the suppression flag (R61) -/

theorem holdsCollision_eq (s : State) (l : List SlotId) : holdsCollision s.demand.slots l = holdsCollisionRecord s l := rfl

theorem holdsCollisionRecord_congr {s t : State} {l : List SlotId}
    (same : ∀ j ∈ l, (t.record j).map Record.cls = (s.record j).map Record.cls) :
    holdsCollisionRecord t l = holdsCollisionRecord s l := by
  have any (x : Option Record) : (x.any fun r => r.cls == .collision) = (x.map Record.cls).any (· == .collision) := by
    cases x <;> rfl
  simp only [holdsCollisionRecord, any]
  rw [Bool.eq_iff_iff, List.any_eq_true, List.any_eq_true]
  exact exists_congr fun j => and_congr_right fun hj => by rw [same j hj]

theorem holdsCollisionRecord_append (s : State) (l m : List SlotId) :
    holdsCollisionRecord s (l ++ m) = (holdsCollisionRecord s l || holdsCollisionRecord s m) := List.any_append

/-! ## Changes of a record's state -/

@[simp] theorem becomes_record (x : Slot) (st : RecState) :
    (becomes x st).record = x.record.map fun r => { r with state := st, cover := .unserved } := rfl

@[simp] theorem becomes_version (x : Slot) (st : RecState) : (becomes x st).version = x.version := rfl

@[simp] theorem becomes_countdown (x : Slot) (st : RecState) : (becomes x st).countdown = x.countdown := rfl

/-- A slot whose flag moves keeps all but the state, the cover and the mark. -/
theorem realigned_cases (before now : Bool) (x : Slot) :
    realigned before now x = x
      ∨ ∃ r, x.record = some r
          ∧ ((before = false ∧ now = true ∧ r.state = .active ∧ r.cls.heldColumn = true
                ∧ realigned before now x = becomes x .held)
            ∨ (before = true ∧ now = false ∧ r.state = .held ∧ realigned before now x = becomes x .active)) := by
  unfold realigned
  rcases x.record with _ | r
  · exact .inl rfl
  · dsimp only
    split_ifs with suppress lift
    · obtain ⟨hb, hn, hs, hc⟩ := suppress
      exact .inr ⟨r, rfl, .inl ⟨hb, hn, hs, by rcases hc with hc | hc <;> rw [hc] <;> rfl, rfl⟩⟩
    · obtain ⟨hb, hn, hs⟩ := lift
      exact .inr ⟨r, rfl, .inr ⟨hb, hn, hs, rfl⟩⟩
    · exact .inl rfl

@[simp] theorem realigned_version (before now : Bool) (x : Slot) : (realigned before now x).version = x.version := by
  rcases realigned_cases before now x with h | ⟨r, -, ⟨-, -, -, -, h⟩ | ⟨-, -, -, h⟩⟩ <;> rw [h] <;> rfl

@[simp] theorem realigned_countdown (before now : Bool) (x : Slot) : (realigned before now x).countdown = x.countdown := by
  rcases realigned_cases before now x with h | ⟨r, -, ⟨-, -, -, -, h⟩ | ⟨-, -, -, h⟩⟩ <;> rw [h] <;> rfl

theorem becomes_record_map {α : Type} (f : Record → α)
    (blind : ∀ (r : Record) (st : RecState), f { r with state := st, cover := .unserved } = f r)
    (x : Slot) (st : RecState) : (becomes x st).record.map f = x.record.map f := by
  rcases h : x.record with _ | r <;> simp [h, blind]

/-- A record that is neither of the HELD column nor HELD is not realigned. -/
theorem realigned_of_active {x : Slot} (hx : x.record = some r) (state : r.state ≠ .held)
    (column : r.cls.heldColumn = false ∨ r.state ≠ .active) (before now : Bool) : realigned before now x = x := by
  rcases realigned_cases before now x with h | ⟨q, hq, ⟨-, -, hs, hc, -⟩ | ⟨-, -, hs, -⟩⟩
  · exact h
  · rw [hx, Option.some.injEq] at hq; subst hq
    rcases column with column | column
    · rw [column] at hc; cases hc
    · exact absurd hs column
  · rw [hx, Option.some.injEq] at hq; subst hq
    exact absurd hs state

/-! ## Admission (R5, R58, R61) -/

theorem RecClass.intervention_iff (c : RecClass) : c.intervention = true ↔ c = .stability ∨ c = .collision := by
  cases c <;> decide

theorem State.admissionTest_arbiter (hr : s.record i = some r)
    (flag : s.arbiter.suppression = holdsCollisionRecord s s.arbiter.listed) :
    (s.admissionTest i).arbiter = arbiterAdmitting s.arbiter i r.cls := by
  unfold State.admissionTest arbiterAdmitting
  rw [hr]
  dsimp only
  simp only [← RecClass.intervention_iff]
  split_ifs with cls room
  · rw [State.alignSuppression_arbiter, holdsCollision_eq]
    dsimp only
    congr 1
    rw [holdsCollisionRecord_append, flag]
    congr 1
    · apply holdsCollisionRecord_congr
      intro j _
      show ((s.enterState i .active).record j).map _ = _
      unfold State.record
      rw [State.enterState_slot]
      split_ifs with same
      · subst same; exact becomes_record_map _ (fun _ _ => rfl) _ _
      · rfl
    · have own : (s.enterState i .active).record i = some { r with state := .active, cover := .unserved } := by
        have : (s.slot i).record = some r := hr
        unfold State.record
        rw [State.enterState_slot, if_pos rfl, becomes_record, this]
        rfl
      show ([i].any fun j => ((s.enterState i .active).record j).any _) = _
      simp [own]
  · rfl
  · rfl
  · rfl

theorem admittedState_eq (a : Arbiter) (c : RecClass) :
    admittedState a c =
      if c.intervention = true then if a.listed.length < 4 then .active else .waiting
      else if (c.heldColumn && a.suppression) = true then .held else .active := by
  cases c <;> rfl

theorem State.admissionTest_slot (hr : s.record i = some r)
    (flag : s.arbiter.suppression = holdsCollisionRecord s s.arbiter.listed) (j : SlotId) :
    (s.admissionTest i).slot j =
      if j = i then becomes (s.slot i) (admittedState s.arbiter r.cls)
      else realigned s.arbiter.suppression (arbiterAdmitting s.arbiter i r.cls).suppression (s.slot j) := by
  have arb := State.admissionTest_arbiter hr flag
  have moved (st : RecState) : (s.enterState i st).slot j = if j = i then becomes (s.slot i) st else s.slot j := by
    rw [State.enterState_slot]
    simp only [eq_comm]
  have still (st : RecState) (h : (arbiterAdmitting s.arbiter i r.cls).suppression = s.arbiter.suppression) :
      (s.enterState i st).slot j = if j = i then becomes (s.slot i) st
        else realigned s.arbiter.suppression (arbiterAdmitting s.arbiter i r.cls).suppression (s.slot j) := by
    rw [h, realigned_same, moved]
  rw [admittedState_eq]
  unfold State.admissionTest at arb ⊢
  rw [hr] at arb ⊢
  by_cases cls : r.cls.intervention = true
  · by_cases room : s.arbiter.listed.length < 4
    · simp only [cls, room, if_true] at arb ⊢
      have record : (s.slot i).record = some r := hr
      have column : r.cls.heldColumn = false := by rcases (RecClass.intervention_iff _).1 cls with h | h <;> rw [h] <;> rfl
      rw [← arb, State.alignSuppression_slot, State.alignSuppression_arbiter]
      refine (congrArg _ (moved .active)).trans ?_
      split_ifs with same
      · exact realigned_of_active (r := { r with state := .active, cover := .unserved })
          (by rw [becomes_record, record]; rfl) (by simp) (.inl column) _ _
      · rfl
    · simp only [cls, room, if_true, if_false] at arb ⊢
      exact still .waiting (congrArg Arbiter.suppression arb).symm
  · simp only [cls] at arb ⊢
    by_cases held : (r.cls.heldColumn && s.arbiter.suppression) = true
    · simp only [held, if_true] at arb ⊢
      exact still .held (congrArg Arbiter.suppression arb).symm
    · simp only [held] at arb ⊢
      exact still .active (congrArg Arbiter.suppression arb).symm

/-! ## Departure (R9, R59, R61) -/

/-- The arbiter's structures after a departure; the flag is examined when the intervention list has changed. -/
theorem State.depart_arbiter (s : State) (i : SlotId) :
    (s.depart i).arbiter =
      { listed := listWithout s.arbiter i
        waiting := if i ∈ s.arbiter.listed then s.arbiter.waiting.tail else s.arbiter.waiting.erase i
        suppression :=
          if i ∈ s.arbiter.listed then holdsCollisionRecord s (listWithout s.arbiter i) else s.arbiter.suppression } := by
  unfold State.depart listWithout
  by_cases listed : i ∈ s.arbiter.listed
  · simp only [listed, if_true]
    rcases waiting : s.arbiter.waiting with _ | ⟨w, ws⟩
    · dsimp only
      rw [State.alignSuppression_arbiter, holdsCollision_eq]
      simp only [List.head?_nil, Option.toList_none, List.append_nil, List.tail_nil]
      rfl
    · dsimp only
      rw [State.alignSuppression_arbiter, holdsCollision_eq]
      simp only [List.head?_cons, Option.toList_some, List.tail_cons, State.enterState_arbiter]
      congr 1
      apply holdsCollisionRecord_congr
      intro j _
      unfold State.record
      rw [State.enterState_slot]
      split_ifs with same
      · subst same; exact becomes_record_map _ (fun _ _ => rfl) _ _
      · rfl
  · simp only [listed, if_false]

/-- The slots after a departure: the oldest waiting record takes a place that falls vacant, and the HELD column follows the
flag. -/
theorem State.depart_slot (s : State) (i j : SlotId) :
    (s.depart i).slot j =
      realigned s.arbiter.suppression (s.depart i).arbiter.suppression
        (if i ∈ s.arbiter.listed ∧ s.arbiter.waiting.head? = some j then becomes (s.slot j) .active else s.slot j) := by
  unfold State.depart
  by_cases listed : i ∈ s.arbiter.listed
  · simp only [listed, if_true, true_and]
    rcases waiting : s.arbiter.waiting with _ | ⟨w, ws⟩
    · dsimp only
      rw [State.alignSuppression_arbiter, State.alignSuppression_slot]
      simp only [List.head?_nil, reduceCtorEq, if_false]
      rfl
    · dsimp only
      rw [State.alignSuppression_arbiter, State.alignSuppression_slot, State.enterState_slot, State.enterState_arbiter]
      simp only [List.head?_cons, Option.some.injEq]
      congr 1
      split_ifs with same
      · subst same; rfl
      · rfl
  · simp only [listed, if_false, false_and, realigned_same]
    rfl

end Sys2Proof.Machine
end

section
/-! PROOF. The arbiter's law slot by slot, and that admission and departure keep it (R57, R61). -/

namespace Sys2Proof.Machine
open Sys2Proof.Claims

/-! ## Slots whose records change state alone -/

/-- Slot y is slot x with another record state, cover, mark or time left; no live record has become STALE. -/
def Restated (x y : Slot) : Prop :=
  y.version = x.version ∧ y.countdown.isSome = x.countdown.isSome
  ∧ ∃ (st : RecState) (c : Cover), y.record = x.record.map (fun r => { r with state := st, cover := c })
      ∧ (st = .stale → ∀ r ∈ x.record, r.state = .stale)

theorem Restated.refl (x : Slot) : Restated x x := by
  refine ⟨rfl, rfl, ?_⟩
  rcases h : x.record with _ | r
  · exact ⟨.active, .unserved, rfl, nofun⟩
  · exact ⟨r.state, r.cover, rfl, fun stale q hq => by cases hq; exact stale⟩

theorem Restated.trans {x y z : Slot} (first : Restated x y) (second : Restated y z) : Restated x z := by
  obtain ⟨version, countdown, st, c, record, stale⟩ := first
  obtain ⟨version', countdown', st', c', record', stale'⟩ := second
  refine ⟨version'.trans version, countdown'.trans countdown, st', c', ?_, fun h r hr => ?_⟩
  · rw [record', record, Option.map_map]
    rfl
  · rw [record, Option.mem_def.1 hr] at stale'
    exact stale (stale' h _ rfl) r hr

theorem Restated.becomes (x : Slot) {st : RecState} (h : st ≠ .stale) : Restated x (becomes x st) :=
  ⟨rfl, rfl, st, .unserved, rfl, fun e => absurd e h⟩

theorem Restated.realigned (before now : Bool) (x : Slot) : Restated x (realigned before now x) := by
  rcases realigned_cases before now x with h | ⟨r, -, ⟨-, -, -, -, h⟩ | ⟨-, -, -, h⟩⟩ <;> rw [h]
  · exact .refl x
  · exact .becomes x (by decide)
  · exact .becomes x (by decide)

/-- What does not read state and cover reads the same of both records. -/
theorem Restated.record_map {x y : Slot} (h : Restated x y) {α : Type} (f : Record → α)
    (blind : ∀ (r : Record) (st : RecState) (c : Cover), f { r with state := st, cover := c } = f r) :
    y.record.map f = x.record.map f := by
  obtain ⟨-, -, st, c, record, -⟩ := h
  rw [record, Option.map_map]
  exact congrArg (x.record.map ·) (funext fun r => blind r st c)

theorem Restated.isSome {x y : Slot} (h : Restated x y) : y.record.isSome = x.record.isSome := by
  obtain ⟨-, -, st, c, record, -⟩ := h
  rw [record, Option.isSome_map]

/-- Every slot of t is the slot of s but for state, cover, mark and time left. -/
def State.Restates (s t : State) : Prop := ∀ j, Restated (s.slot j) (t.slot j)

variable {s t u : State} {i j : SlotId} {r : Record}

theorem State.Restates.trans (first : s.Restates t) (second : t.Restates u) : s.Restates u :=
  fun j => (first j).trans (second j)

theorem State.Restates.of_slots (h : t.demand.slots = s.demand.slots) : s.Restates t := fun j => by
  have : t.slot j = s.slot j := by unfold State.slot; rw [h]
  rw [this]
  exact .refl _

theorem State.restates_enterState (s : State) (i : SlotId) {st : RecState} (h : st ≠ .stale) :
    s.Restates (s.enterState i st) := fun j => by
  rw [State.enterState_slot]
  split_ifs with same
  · subst same; exact .becomes _ h
  · exact .refl _

theorem State.restates_alignSuppression (s : State) : s.Restates s.alignSuppression := fun j => by
  rw [State.alignSuppression_slot]
  exact .realigned _ _ _

theorem State.restates_admissionTest (s : State) (i : SlotId) : s.Restates (s.admissionTest i) := by
  unfold State.admissionTest
  split
  · exact .of_slots rfl
  · split_ifs
    · exact ((s.restates_enterState i (by decide : RecState.active ≠ .stale)).trans (.of_slots rfl)).trans
        (State.restates_alignSuppression _)
    · exact (s.restates_enterState i (by decide : RecState.waiting ≠ .stale)).trans (.of_slots rfl)
    · exact s.restates_enterState i (by decide)
    · exact s.restates_enterState i (by decide)

theorem State.restates_depart (s : State) (i : SlotId) : s.Restates (s.depart i) := fun j => by
  rw [State.depart_slot]
  split_ifs
  · exact (Restated.becomes _ (by decide)).trans (.realigned _ _ _)
  · exact .realigned _ _ _

theorem State.Restates.holdsCollisionRecord_eq (h : s.Restates t) (l : List SlotId) :
    holdsCollisionRecord t l = holdsCollisionRecord s l :=
  holdsCollisionRecord_congr fun j _ => (h j).record_map Record.cls fun _ _ _ => rfl

/-! ## The law, slot by slot -/

/-- The lists hold each slot once, the intervention list at most 4 and 4 while a record waits (R57). -/
structure ListsLaw (a : Arbiter) : Prop where
  listed  : a.listed.Nodup
  room    : a.listed.length ≤ 4
  waiting : a.waiting.Nodup
  full    : a.waiting ≠ [] → a.listed.length = 4

/-- What slot i holds agrees with the arbiter's lists and flag. -/
structure Stands (a : Arbiter) (i : SlotId) (x : Option Record) : Prop where
  listed  : i ∈ a.listed ↔ ∃ r ∈ x, r.cls.intervention = true ∧ r.state = .active
  waiting : i ∈ a.waiting ↔ ∃ r ∈ x, r.state = .waiting
  queues  : ∀ r ∈ x, r.state = .waiting → r.cls.intervention = true
  clear   : ∀ r ∈ x, r.cls.heldColumn = true → r.state = .active → a.suppression = false
  held    : ∀ r ∈ x, r.state = .held → r.cls.heldColumn = true ∧ a.suppression = true

theorem arbiterLaw_iff (s : State) :
    ArbiterLaw s ↔ ListsLaw s.arbiter ∧ (∀ i, Stands s.arbiter i (s.record i))
      ∧ s.arbiter.suppression = holdsCollisionRecord s s.arbiter.listed := by
  constructor
  · rintro ⟨nodup, room, queue, full, listed, waiting, queues, flag, clear, held⟩
    exact ⟨⟨nodup, room, queue, full⟩, fun i => ⟨listed i, waiting i, queues i, clear i, held i⟩, flag⟩
  · rintro ⟨⟨nodup, room, queue, full⟩, stands, flag⟩
    exact ⟨nodup, room, queue, full, fun i => (stands i).listed, fun i => (stands i).waiting, fun i => (stands i).queues,
      flag, fun i => (stands i).clear, fun i => (stands i).held⟩

variable {a b : Arbiter} {x y : Option Record}

theorem stands_none : Stands a i none ↔ i ∉ a.listed ∧ i ∉ a.waiting := by
  constructor
  · rintro ⟨listed, waiting, -, -, -⟩
    exact ⟨by simpa using listed, by simpa using waiting⟩
  · rintro ⟨listed, waiting⟩
    exact ⟨by simp [listed], by simp [waiting], by simp, by simp, by simp⟩

theorem stands_some :
    Stands a i (some r) ↔
      (i ∈ a.listed ↔ r.cls.intervention = true ∧ r.state = .active) ∧ (i ∈ a.waiting ↔ r.state = .waiting)
      ∧ (r.state = .waiting → r.cls.intervention = true)
      ∧ (r.cls.heldColumn = true → r.state = .active → a.suppression = false)
      ∧ (r.state = .held → r.cls.heldColumn = true ∧ a.suppression = true) := by
  constructor
  · rintro ⟨listed, waiting, queues, clear, held⟩
    exact ⟨by simpa using listed, by simpa using waiting, queues r rfl, clear r rfl, held r rfl⟩
  · rintro ⟨listed, waiting, queues, clear, held⟩
    exact ⟨by simpa using listed, by simpa using waiting, by simpa using queues, by simpa using clear, by simpa using held⟩

/-- Only class and state of a record count. -/
theorem Stands.congr (h : Stands a i x)
    (same : y.map (fun r => (r.cls, r.state)) = x.map (fun r => (r.cls, r.state))) : Stands a i y := by
  rcases x with _ | r <;> rcases y with _ | q
  · exact h
  · simp at same
  · simp at same
  · obtain ⟨cls, state⟩ : q.cls = r.cls ∧ q.state = r.state := by simpa using same
    rw [stands_some, cls, state, ← stands_some]
    exact h

/-- A slot that is FREE or holds a STALE record stands in no list. -/
theorem stands_of_stale (listed : i ∉ a.listed) (waiting : i ∉ a.waiting) (stale : ∀ r ∈ x, r.state = .stale) :
    Stands a i x := by
  rcases x with _ | r
  · exact stands_none.2 ⟨listed, waiting⟩
  · simp [stands_some, stale r rfl, listed, waiting]

/-- A slot in no list that is FREE or STALE; the converse of `stands_of_stale`. -/
theorem Stands.not_mem (h : Stands a i x) (stale : ∀ r ∈ x, r.state = .stale) : i ∉ a.listed ∧ i ∉ a.waiting := by
  constructor
  · rw [h.listed]
    rintro ⟨r, hr, -, e⟩
    rw [stale r hr] at e
    cases e
  · rw [h.waiting]
    rintro ⟨r, hr, e⟩
    rw [stale r hr] at e
    cases e

/-- The HELD column follows the flag, and the lists stand as far as slot i is concerned (R61). -/
theorem Stands.realign {x : Slot} (h : Stands a i x.record) (listed : i ∈ b.listed ↔ i ∈ a.listed)
    (waiting : i ∈ b.waiting ↔ i ∈ a.waiting) :
    Stands b i (realigned a.suppression b.suppression x).record := by
  rcases hx : x.record with _ | r
  · rw [show realigned a.suppression b.suppression x = x by simp [realigned, hx], hx]
    rw [hx, stands_none] at h
    exact stands_none.2 ⟨mt listed.1 h.1, mt waiting.1 h.2⟩
  · have demand : r.cls.heldColumn = true → r.cls.intervention = false := by cases r.cls <;> decide
    have column : (r.cls = .descent ∨ r.cls = .stalk) ↔ r.cls.heldColumn = true := by cases r.cls <;> decide
    rw [hx, stands_some] at h
    simp only [realigned, hx, column]
    split_ifs with suppress lift
    · obtain ⟨-, now, -, held⟩ := suppress
      simp_all [stands_some]
    · obtain ⟨-, now, held⟩ := lift
      simp_all [stands_some]
    · rw [hx, stands_some, listed, waiting]
      obtain ⟨inList, inQueue, queues, clear, held⟩ := h
      refine ⟨inList, inQueue, queues, fun col state => ?_, fun state => ⟨(held state).1, ?_⟩⟩
      · by_contra now
        exact suppress ⟨clear col state, by simpa using now, state, col⟩
      · by_contra now
        exact lift ⟨(held state).2, by simpa using now, state⟩

end Sys2Proof.Machine
end

section
/-! PROOF. Admission and departure keep the arbiter's law (R57 to R61). -/

namespace Sys2Proof.Machine
open Sys2Proof.Claims

variable {s t u : State} {i j : SlotId} {r : Record} {a : Arbiter} {c : RecClass}

theorem State.record_eq (s : State) (i : SlotId) : s.record i = (s.slot i).record := rfl

/-! ## Admission -/

theorem mem_arbiterAdmitting (ne : j ≠ i) :
    (j ∈ (arbiterAdmitting a i c).listed ↔ j ∈ a.listed) ∧ (j ∈ (arbiterAdmitting a i c).waiting ↔ j ∈ a.waiting) := by
  unfold arbiterAdmitting
  split_ifs <;> simp [ne]

theorem ListsLaw.admitting (h : ListsLaw a) (listed : i ∉ a.listed) (waiting : i ∉ a.waiting) (c : RecClass) :
    ListsLaw (arbiterAdmitting a i c) := by
  obtain ⟨nodup, room, queue, full⟩ := h
  unfold arbiterAdmitting
  split_ifs with cls free
  · refine ⟨List.concat_eq_append ▸ nodup.concat listed, ?_, queue, ?_⟩
    · simpa using free
    · intro some
      have := full some
      omega
  · refine ⟨nodup, room, List.concat_eq_append ▸ queue.concat waiting, ?_⟩
    intro _
    have := Nat.not_lt.1 free
    exact le_antisymm room this
  · exact ⟨nodup, room, queue, full⟩

/-- The state and the structure that the admission test gives a record agree. -/
theorem stands_admitted (listed : i ∉ a.listed) (waiting : i ∉ a.waiting) (r : Record) :
    Stands (arbiterAdmitting a i r.cls) i (some { r with state := admittedState a r.cls, cover := .unserved }) := by
  rw [stands_some]
  dsimp only
  rw [admittedState_eq]
  unfold arbiterAdmitting
  simp only [← RecClass.intervention_iff]
  split_ifs with cls room held
  · have column : r.cls.heldColumn = false := by rcases (RecClass.intervention_iff _).1 cls with h | h <;> rw [h] <;> rfl
    simp [cls, column, waiting]
  · simp [cls, listed]
  · obtain ⟨column, flag⟩ := by simpa using held
    simp [cls, listed, waiting, column, flag]
  · simp_all

/-- An admission leaves the law standing, when it stood but for the slot that is admitted. -/
theorem arbiterLaw_admissionTest (lists : ListsLaw s.arbiter) (others : ∀ j ≠ i, Stands s.arbiter j (s.record j))
    (listed : i ∉ s.arbiter.listed) (waiting : i ∉ s.arbiter.waiting)
    (flag : s.arbiter.suppression = holdsCollisionRecord s s.arbiter.listed) (hr : s.record i = some r) :
    ArbiterLaw (s.admissionTest i) := by
  have arb := State.admissionTest_arbiter hr flag
  rw [arbiterLaw_iff]
  refine ⟨arb ▸ lists.admitting listed waiting r.cls, fun j => ?_, ?_⟩
  · rw [State.record_eq, State.admissionTest_slot hr flag, arb]
    split_ifs with own
    · subst own
      have record : (s.slot j).record = some r := hr
      rw [becomes_record, record]
      exact stands_admitted listed waiting r
    · obtain ⟨inList, inQueue⟩ := mem_arbiterAdmitting (a := s.arbiter) (c := r.cls) own
      exact (others j own).realign inList inQueue
  · rw [(s.restates_admissionTest i).holdsCollisionRecord_eq, arb]
    unfold arbiterAdmitting
    split_ifs with cls room
    · dsimp only
      rw [holdsCollisionRecord_append, flag]
      congr 1
      simp [holdsCollisionRecord, hr]
    · exact flag
    · exact flag

/-- The admission of a record to a slot that was FREE or STALE. -/
theorem ArbiterLaw.admissionTest (h : ArbiterLaw s) (arbiter : t.arbiter = s.arbiter)
    (others : ∀ j ≠ i, t.record j = s.record j) (before : ∀ r ∈ s.record i, r.state = .stale) (hr : t.record i = some r) :
    ArbiterLaw (t.admissionTest i) := by
  obtain ⟨lists, stands, flag⟩ := (arbiterLaw_iff s).1 h
  obtain ⟨listed, waiting⟩ := (stands i).not_mem before
  refine arbiterLaw_admissionTest (arbiter ▸ lists) (fun j ne => ?_) (arbiter ▸ listed) (arbiter ▸ waiting) ?_ hr
  · rw [arbiter, others j ne]
    exact stands j
  · rw [arbiter, flag]
    refine (holdsCollisionRecord_congr fun j hj => ?_).symm
    rw [others j fun e => listed (e ▸ hj)]

/-! ## Departure -/

variable {b : Bool}

/-- The lists after a departure; `b` is the flag. -/
def listsWithout (a : Arbiter) (i : SlotId) (b : Bool) : Arbiter :=
  { listed := listWithout a i, waiting := if i ∈ a.listed then a.waiting.tail else a.waiting.erase i, suppression := b }

/-- Whether slot j takes the place that the departure of slot i leaves vacant (R59). -/
def Succeeds (a : Arbiter) (i j : SlotId) : Prop := i ∈ a.listed ∧ a.waiting.head? = some j

theorem mem_listsWithout_listed (ne : j ≠ i) :
    j ∈ (listsWithout a i b).listed ↔ j ∈ a.listed ∨ Succeeds a i j := by
  unfold listsWithout listWithout Succeeds
  split_ifs with listed
  · simp [List.mem_erase_of_ne ne, listed]
  · simp [listed]

theorem mem_listsWithout_waiting (lists : ListsLaw a) (ne : j ≠ i) :
    j ∈ (listsWithout a i b).waiting ↔ j ∈ a.waiting ∧ ¬ Succeeds a i j := by
  unfold listsWithout Succeeds
  have queue := lists.waiting
  dsimp only
  split_ifs with listed
  · rcases hw : a.waiting with _ | ⟨w, ws⟩
    · simp
    · rw [hw, List.nodup_cons] at queue
      simp only [List.tail_cons, List.mem_cons, List.head?_cons, Option.some.injEq, true_and, listed]
      constructor
      · intro h
        exact ⟨.inr h, fun e => queue.1 (e ▸ h)⟩
      · rintro ⟨rfl | h, other⟩
        · exact absurd rfl other
        · exact h
  · simp [List.mem_erase_of_ne ne, listed]

theorem notMem_listsWithout (lists : ListsLaw a) (apart : i ∈ a.listed → i ∉ a.waiting) :
    i ∉ (listsWithout a i b).listed ∧ i ∉ (listsWithout a i b).waiting := by
  unfold listsWithout listWithout
  dsimp only
  split_ifs with listed
  · have head : i ∉ a.waiting.head?.toList := fun h => apart listed (List.mem_of_mem_head? (by simpa using h))
    exact ⟨by simpa [head] using lists.listed.not_mem_erase, fun h => apart listed (List.mem_of_mem_tail h)⟩
  · exact ⟨listed, lists.waiting.not_mem_erase⟩

theorem ListsLaw.without (lists : ListsLaw a) (apart : ∀ j ∈ a.listed, j ∉ a.waiting) : ListsLaw (listsWithout a i b) := by
  obtain ⟨nodup, room, queue, full⟩ := lists
  unfold listsWithout listWithout
  split_ifs with listed
  · have length := List.length_erase_of_mem listed
    rcases hw : a.waiting with _ | ⟨w, ws⟩
    · exact ⟨by simpa using nodup.erase i, by simp [length]; omega, by simp, by simp⟩
    · have full := full (by simp [hw])
      rw [hw, List.nodup_cons] at queue
      have fresh (k : SlotId) (hk : k ∈ a.listed.erase i) : k ≠ w := by
        rintro rfl
        exact apart k (List.mem_of_mem_erase hk) (by simp [hw])
      refine ⟨?_, by simp [length]; omega, by simpa using queue.2, fun _ => by simp [length]; omega⟩
      simpa [List.nodup_append] using ⟨nodup.erase i, fresh⟩
  · refine ⟨nodup, room, queue.erase i, fun some => full fun none => some ?_⟩
    dsimp only
    rw [none]
    rfl

/-- A departure leaves the law standing, when it stood but for the slot that departs. -/
theorem arbiterLaw_depart (lists : ListsLaw s.arbiter) (others : ∀ j ≠ i, Stands s.arbiter j (s.record j))
    (stale : ∀ r ∈ s.record i, r.state = .stale) (apart : ∀ j ∈ s.arbiter.listed, j ∉ s.arbiter.waiting)
    (flag : i ∉ s.arbiter.listed → s.arbiter.suppression = holdsCollisionRecord s s.arbiter.listed) :
    ArbiterLaw (s.depart i) := by
  have arb : (s.depart i).arbiter = listsWithout s.arbiter i (s.depart i).arbiter.suppression := by
    rw [State.depart_arbiter]
    rfl
  have own := notMem_listsWithout (b := (s.depart i).arbiter.suppression) lists (apart i)
  have restated := s.restates_depart i
  rw [arbiterLaw_iff]
  refine ⟨arb ▸ lists.without apart, fun j => ?_, ?_⟩
  · rcases eq_or_ne j i with rfl | ne
    · rw [← arb] at own
      refine stands_of_stale own.1 own.2 fun q hq => ?_
      have unmoved : ¬ (j ∈ s.arbiter.listed ∧ s.arbiter.waiting.head? = some j) := fun ⟨h, w⟩ =>
        apart j h (List.mem_of_mem_head? w)
      have steady (q : Record) (hq : (s.slot j).record = some q) :
          realigned s.arbiter.suppression (s.depart j).arbiter.suppression (s.slot j) = s.slot j :=
        realigned_of_active hq (by simp [stale q hq]) (.inr (by simp [stale q hq])) _ _
      rw [State.record_eq, State.depart_slot, if_neg unmoved] at hq
      rcases hx : (s.slot j).record with _ | r
      · simp [realigned, hx] at hq
      · rw [steady r hx] at hq
        exact stale q hq
    · have inList := mem_listsWithout_listed (a := s.arbiter) (b := (s.depart i).arbiter.suppression) ne
      have inQueue := mem_listsWithout_waiting (b := (s.depart i).arbiter.suppression) lists ne
      rw [← arb] at inList inQueue
      rw [State.record_eq, State.depart_slot]
      split_ifs with succeeds
      · have queued : j ∈ s.arbiter.waiting := List.mem_of_mem_head? succeeds.2
        obtain ⟨r, hr, state⟩ := (others j ne).waiting.1 queued
        have cls := (others j ne).queues r hr state
        have column : r.cls.heldColumn = false := by rcases (RecClass.intervention_iff _).1 cls with h | h <;> rw [h] <;> rfl
        have record : (s.slot j).record = some r := hr
        rw [realigned_of_active (r := { r with state := .active, cover := .unserved }) (by rw [becomes_record, record]; rfl)
          (by simp) (.inl column), becomes_record, record, Option.map_some, stands_some, inList, inQueue]
        simp [cls, column, Succeeds, succeeds]
      · refine (others j ne).realign ?_ ?_
        · rw [inList]
          exact or_iff_left succeeds
        · rw [inQueue]
          exact and_iff_left succeeds
  · rw [restated.holdsCollisionRecord_eq, State.depart_arbiter]
    dsimp only
    split_ifs with listed
    · rfl
    · rw [flag listed, listWithout, if_neg listed]

/-- The departure of a slot that has been freed or made STALE. -/
theorem ArbiterLaw.depart (h : ArbiterLaw s) (arbiter : t.arbiter = s.arbiter) (others : ∀ j ≠ i, t.record j = s.record j)
    (stale : ∀ r ∈ t.record i, r.state = .stale) : ArbiterLaw (t.depart i) := by
  obtain ⟨lists, stands, flag⟩ := (arbiterLaw_iff s).1 h
  refine arbiterLaw_depart (arbiter ▸ lists) (fun j ne => ?_) stale ?_ fun out => ?_
  · rw [arbiter, others j ne]
    exact stands j
  · rw [arbiter]
    intro j listed waiting
    obtain ⟨r, hr, -, active⟩ := (stands j).listed.1 listed
    obtain ⟨q, hq, state⟩ := (stands j).waiting.1 waiting
    obtain rfl : r = q := Option.mem_unique hr hq
    rw [active] at state
    cases state
  · rw [arbiter] at out ⊢
    rw [flag]
    refine (holdsCollisionRecord_congr fun j hj => ?_).symm
    rw [others j fun e => out (e ▸ hj)]

/-- The law reads the lists and, of the slots, class and state of the records. -/
theorem ArbiterLaw.congr (h : ArbiterLaw s) (arbiter : t.arbiter = s.arbiter)
    (same : ∀ j, (t.record j).map (fun r => (r.cls, r.state)) = (s.record j).map (fun r => (r.cls, r.state))) :
    ArbiterLaw t := by
  obtain ⟨lists, stands, flag⟩ := (arbiterLaw_iff s).1 h
  have cls (j : SlotId) : (t.record j).map Record.cls = (s.record j).map Record.cls := by
    have := congrArg (Option.map Prod.fst) (same j)
    simpa [Function.comp_def] using this
  rw [arbiterLaw_iff, arbiter]
  exact ⟨lists, fun j => (stands j).congr (same j), flag.trans (holdsCollisionRecord_congr fun j _ => cls j).symm⟩

/-- A slot that is FREE or STALE before and after stands outside the law. -/
theorem ArbiterLaw.of_stale (h : ArbiterLaw s) (arbiter : t.arbiter = s.arbiter) (others : ∀ j ≠ i, t.record j = s.record j)
    (before : ∀ r ∈ s.record i, r.state = .stale) (after : ∀ r ∈ t.record i, r.state = .stale) : ArbiterLaw t := by
  obtain ⟨lists, stands, flag⟩ := (arbiterLaw_iff s).1 h
  obtain ⟨listed, waiting⟩ := (stands i).not_mem before
  rw [arbiterLaw_iff, arbiter]
  refine ⟨lists, fun j => ?_, flag.trans (holdsCollisionRecord_congr fun j hj => ?_).symm⟩
  · rcases eq_or_ne j i with rfl | ne
    · exact stands_of_stale listed waiting after
    · rw [others j ne]
      exact stands j
  · rw [others j fun e => listed (e ▸ hj)]

end Sys2Proof.Machine
end

section
/-! PROOF. What the other laws of the table ask of a change of slots: the table's own law (R1, R4, R15), the monitors' (R20, R21)
and the records' (R2, R3). -/

namespace Sys2Proof.Machine
open Sys2Proof.Claims

variable {s t u : State} {i j : SlotId} {r : Record} {n : Node}

/-! ## Every setting in range (R164) -/

theorem SettingIndex.mem_all (i : SettingIndex) : i ∈ SettingIndex.all := by
  cases i <;> simp [SettingIndex.all]

theorem settingsLaw_iff (s : State) : SettingsLaw s ↔ ∀ i : SettingIndex, i.inRange (s.settings.get i) = true :=
  ⟨fun h i => h i i.mem_all, fun h i _ => h i⟩

@[simp] theorem between_iff {lo hi : Nat} {x : Half} : between lo hi x = true ↔ lo ≤ x.toNat ∧ x.toNat ≤ hi := by
  simp [between]

@[simp] theorem signedBetween_iff {lo hi : Int} {x : Half} : signedBetween lo hi x = true ↔ lo ≤ x.toInt ∧ x.toInt ≤ hi := by
  simp [signedBetween]

/-- What the ranges say of a row of the class table (R53). -/
theorem SettingsLaw.row (h : SettingsLaw s) (c : RecClass) :
    (1 ≤ (s.settings.row c).sources.toNat ∧ (s.settings.row c).sources.toNat ≤ 7)
    ∧ (1 ≤ (s.settings.row c).leaseMin.toNat ∧ (s.settings.row c).leaseMin.toNat ≤ 255)
    ∧ (1 ≤ (s.settings.row c).leaseMax.toNat ∧ (s.settings.row c).leaseMax.toNat ≤ 255) :=
  have all := (settingsLaw_iff s).1 h
  ⟨between_iff.1 (all (.classSources c.row)), between_iff.1 (all (.classLeaseMin c.row)),
    between_iff.1 (all (.classLeaseMax c.row))⟩

/-! ## The table's own law -/

/-- The law reads the age order and, of the slots, owner and handle and whether a countdown runs. -/
theorem TableLaw.congr (h : TableLaw s) (age : t.demand.age = s.demand.age)
    (key : ∀ j, (t.record j).map (fun r => (r.owner, r.handle)) = (s.record j).map (fun r => (r.owner, r.handle)))
    (running : ∀ j, (t.slot j).countdown.isSome = (t.record j).isSome) : TableLaw t := by
  obtain ⟨nodup, member, unique, -⟩ := h
  have pull {j : SlotId} {r : Record} (hr : r ∈ t.record j) : ∃ q ∈ s.record j, q.owner = r.owner ∧ q.handle = r.handle := by
    have same := key j
    rw [Option.mem_def.1 hr, Option.map_some, eq_comm, Option.map_eq_some_iff] at same
    obtain ⟨q, hq, e⟩ := same
    exact ⟨q, hq, congrArg Prod.fst e, congrArg Prod.snd e⟩
  refine ⟨age ▸ nodup, fun j => ?_, fun j k r hr q hq owner handle => ?_, running⟩
  · have same := congrArg Option.isSome (key j)
    simp only [Option.isSome_map] at same
    rw [age, member, same]
  · obtain ⟨r', hr', o, d⟩ := pull hr
    obtain ⟨q', hq', o', d'⟩ := pull hq
    exact unique j k r' hr' q' hq' (o.trans (owner.trans o'.symm)) (d.trans (handle.trans d'.symm))

theorem TableLaw.restates (h : TableLaw s) (age : t.demand.age = s.demand.age) (same : s.Restates t) : TableLaw t := by
  refine h.congr age (fun j => (same j).record_map _ fun _ _ _ => rfl) fun j => ?_
  obtain ⟨-, -, -, running⟩ := h
  rw [(same j).2.1, running, State.record_eq, State.record_eq, (same j).isSome]

theorem State.freeSlot_record (s : State) (i j : SlotId) :
    (s.freeSlot i).record j = if i = j then none else s.record j := by
  rw [State.record_eq, State.freeSlot_slot]
  split_ifs <;> rfl

theorem mem_record_of_freeSlot (h : r ∈ (s.freeSlot i).record j) : r ∈ s.record j := by
  rw [State.freeSlot_record] at h
  split_ifs at h
  · cases h
  · exact h

theorem TableLaw.freeSlot (h : TableLaw s) (i : SlotId) : TableLaw (s.freeSlot i) := by
  obtain ⟨nodup, member, unique, running⟩ := h
  refine ⟨nodup.erase i, fun j => ?_, fun j k r hr q hq => ?_, fun j => ?_⟩
  · rw [State.freeSlot_age, State.freeSlot_record, nodup.mem_erase_iff, member]
    split_ifs with own
    · simp [own]
    · simp [Ne.symm own]
  · exact unique j k r (mem_record_of_freeSlot hr) q (mem_record_of_freeSlot hq)
  · rw [State.freeSlot_slot, State.freeSlot_record]
    split_ifs
    · rfl
    · exact running j

theorem State.createRecord_record (s : State) (i j : SlotId) (r : Record) :
    (s.createRecord i r).record j = if i = j then some r else s.record j := by
  rw [State.record_eq, State.createRecord_slot]
  split_ifs <;> rfl

theorem TableLaw.createRecord (h : TableLaw s) (free : s.record i = none)
    (fresh : ∀ j, ∀ q ∈ s.record j, q.owner = r.owner → q.handle = r.handle → False) : TableLaw (s.createRecord i r) := by
  obtain ⟨nodup, member, unique, running⟩ := h
  have out : i ∉ s.demand.age := by rw [member, free]; simp
  refine ⟨by simpa using nodup.concat out, fun j => ?_, fun j k p hp q hq owner handle => ?_, fun j => ?_⟩
  · rw [State.createRecord_age, State.createRecord_record, List.mem_append, member, List.mem_singleton]
    split_ifs with own
    · simp [own]
    · simp [Ne.symm own]
  · rw [State.createRecord_record] at hp hq
    split_ifs at hp hq with hj hk hk
    · exact hj.symm.trans hk
    · cases hp
      exact (fresh k q hq owner.symm handle.symm).elim
    · cases hq
      exact (fresh j p hp owner handle).elim
    · exact unique j k p hp q hq owner handle
  · rw [State.createRecord_slot, State.createRecord_record]
    split_ifs
    · rfl
    · exact running j

/-! ## The monitors' law -/

/-- A slot that a valid monitor may name after a change: its version stands and its live record stays live. -/
def StaysLive (x y : Slot) : Prop :=
  y.version = x.version ∧ ((∃ r ∈ x.record, r.live = true) → ∃ r ∈ y.record, r.live = true)

theorem StaysLive.refl (x : Slot) : StaysLive x x := ⟨rfl, id⟩

theorem Restated.staysLive {x y : Slot} (h : Restated x y) : StaysLive x y := by
  obtain ⟨version, -, st, c, record, stale⟩ := h
  refine ⟨version, fun ⟨r, hr, live⟩ => ⟨{ r with state := st, cover := c }, ?_, ?_⟩⟩
  · rw [record, Option.mem_def.1 hr]
    rfl
  · simp only [Record.live, bne_iff_ne] at live ⊢
    exact fun e => live (stale e r hr)

/-- The law stands when every monitor still valid is the monitor before, and names a slot that stays live. -/
theorem MonitorLaw.keep (h : MonitorLaw s)
    (valid : ∀ n : Node, t.monitors[n].valid = true →
      t.monitors[n] = s.monitors[n] ∧ StaysLive (s.slot s.monitors[n].slot) (t.slot s.monitors[n].slot)) : MonitorLaw t := by
  intro n hn
  obtain ⟨same, version, live⟩ := valid n hn
  rw [same] at hn ⊢
  obtain ⟨hlive, hversion⟩ := h n hn
  exact ⟨live hlive, version.trans hversion⟩

theorem MonitorLaw.restates (h : MonitorLaw s) (monitors : t.monitors = s.monitors) (same : s.Restates t) : MonitorLaw t :=
  h.keep fun n _ => ⟨by rw [monitors], (same _).staysLive⟩

theorem clearMonitorsOf_getElem (s : State) (i : SlotId) (n : Node) :
    (s.clearMonitorsOf i).monitors[n] =
      if s.monitors[n].slot = i then { s.monitors[n] with valid := false } else s.monitors[n] := by
  simp [State.clearMonitorsOf]

/-- Slot i may change at will when the monitors that name it are cleared (R20). -/
theorem MonitorLaw.clear (h : MonitorLaw s) (monitors : t.monitors = (s.clearMonitorsOf i).monitors)
    (others : ∀ j ≠ i, t.slot j = s.slot j) : MonitorLaw t := by
  refine h.keep fun n hn => ?_
  have cleared := clearMonitorsOf_getElem s i n
  rw [← monitors] at cleared
  split_ifs at cleared with named
  · rw [cleared] at hn
    cases hn
  · refine ⟨cleared, ?_⟩
    rw [others _ named]
    exact .refl _

theorem MonitorLaw.clearMonitor (h : MonitorLaw s) (n : Node) : MonitorLaw (s.clearMonitor n) := by
  refine h.keep fun m hm => ⟨?_, .refl _⟩
  unfold State.clearMonitor at hm ⊢
  dsimp only at hm ⊢
  rw [getElem_set_fin] at hm ⊢
  split_ifs at hm ⊢
  rfl

theorem MonitorLaw.setMonitor (h : MonitorLaw s) (n : Node) (hr : s.record i = some r) (live : r.live = true) :
    MonitorLaw (s.setMonitor n i (s.slot i).version) := by
  intro m hm
  have monitor : (s.setMonitor n i (s.slot i).version).monitors[m]
      = if n = m then { slot := i, version := (s.slot i).version, valid := true } else s.monitors[m] :=
    getElem_set_fin _ _ _ _
  rw [monitor] at hm ⊢
  split_ifs at hm ⊢
  · exact ⟨⟨r, hr, live⟩, rfl⟩
  · exact h m hm

/-! ## The records' law -/

/-- The law stands when every record fits that was not there before, and none appears in SETUP. -/
theorem RecordLaw.keep (h : RecordLaw s) (settings : t.settings = s.settings) (mode : t.ctl.mode = s.ctl.mode)
    (records : ∀ j, ∀ q ∈ t.record j, ∃ r ∈ s.record j, r.fits s.settings → q.fits s.settings) : RecordLaw t := by
  obtain ⟨ranges, setup, fits⟩ := h
  rw [RecordLaw, SettingsLaw, settings, mode]
  refine ⟨ranges, fun inSetup j => ?_, fun j q hq => ?_⟩
  · rw [Option.eq_none_iff_forall_not_mem]
    intro q hq
    obtain ⟨r, hr, -⟩ := records j q hq
    rw [setup inSetup j] at hr
    cases hr
  · obtain ⟨r, hr, keeps⟩ := records j q hq
    exact keeps (fits j r hr)

theorem RecordLaw.restates (h : RecordLaw s) (settings : t.settings = s.settings) (mode : t.ctl.mode = s.ctl.mode)
    (same : s.Restates t) : RecordLaw t := by
  refine h.keep settings mode fun j q hq => ?_
  obtain ⟨-, -, st, c, record, -⟩ := same j
  obtain ⟨r, hr, rfl⟩ := Option.map_eq_some_iff.1 (record.symm.trans hq)
  exact ⟨r, hr, id⟩

theorem RecordLaw.freeSlot (h : RecordLaw s) (i : SlotId) : RecordLaw (s.freeSlot i) :=
  h.keep rfl rfl fun _ q hq => ⟨q, mem_record_of_freeSlot hq, id⟩

theorem RecordLaw.createRecord (h : RecordLaw s) (running : s.ctl.mode ≠ .setup) (fits : r.fits s.settings) :
    RecordLaw (s.createRecord i r) := by
  obtain ⟨ranges, -, all⟩ := h
  refine ⟨ranges, fun setup => absurd setup running, fun j q hq => ?_⟩
  rw [State.createRecord_record] at hq
  split_ifs at hq
  · cases hq
    exact fits
  · exact all j q hq

/-! ## Records that fit their class (R2, R3) -/

theorem SourceSet.ofMask_ne_empty {m : Half} (low : 1 ≤ m.toNat) (high : m.toNat ≤ 7) : SourceSet.ofMask m ≠ .empty := by
  have value : m = BitVec.ofNat 16 m.toNat := by simp
  rw [value]
  generalize m.toNat = k at low high
  interval_cases k <;> decide

end Sys2Proof.Machine
end

section
/-! PROOF. The records that accepted messages write fit their class and the settings (R2, R3, R31, R32, R47, R55). -/

namespace Sys2Proof.Machine
open Sys2Proof.Claims

variable {s : State} {t : Settings} {i : SlotId} {r : Record} {n : Node} {c : RecClass} {x : Carried} {q : Qualifier}

/-! ## Qualifiers (R46, R47) -/

@[simp] theorem Record.qualified_cls (r : Record) (q : Qualifier) : (r.qualified q).cls = r.cls := (r.qualified_fixed q).2.2.1

theorem Record.fits.qualified (h : r.fits t) (valid : q.validFor t r.cls = true) : (r.qualified q).fits t := by
  obtain ⟨force, limit, hasLimit, noForce, inhibit, sources, onset, axles, lease, lease', next⟩ := h
  unfold Qualifier.validFor at valid
  unfold Record.qualified
  cases kind : q.kind <;> simp only [kind] at valid ⊢
  case sources =>
    obtain ⟨low, high⟩ : 1 ≤ q.value.toNat ∧ q.value.toNat ≤ 7 := by simpa using valid
    exact ⟨force, limit, hasLimit, noForce, inhibit, SourceSet.ofMask_ne_empty low high, onset, axles, lease, lease', next⟩
  case axles =>
    refine ⟨force, limit, hasLimit, noForce, inhibit, sources, onset, fun j hj => ?_, lease, lease', next⟩
    rw [axleSetOfMask_getElem] at hj
    have configured := List.all_eq_true.1 (Bool.and_eq_true_iff.1 valid).2 j (List.mem_finRange j)
    simpa [hj] using configured
  case onset =>
    obtain ⟨⟨cls, high⟩, zero⟩ : (r.cls ≠ .stability ∧ q.value.toNat ≤ 20000)
        ∧ (q.value ≠ 0 ∨ r.cls = .collision) := by
      simpa using valid
    refine ⟨force, limit, hasLimit, noForce, inhibit, sources, fun o ho => ?_, axles, lease, lease', next⟩
    cases ho
    exact ⟨high, cls, fun e => zero.resolve_left fun ne => ne (BitVec.eq_of_toNat_eq e)⟩
  case inhibit =>
    have cls : r.cls.intervention = true := (Bool.and_eq_true_iff.1 valid).1
    exact ⟨force, limit, hasLimit, noForce, by rw [cls]; rfl, sources, onset, axles, lease, lease', next⟩

theorem Record.fits.foldl_qualified {quals : List Qualifier} (h : r.fits t) (valid : qualsValid t r.cls quals = true) :
    (quals.foldl Record.qualified r).fits t := by
  induction quals generalizing r with
  | nil => exact h
  | cons q quals ih =>
    obtain ⟨first, rest⟩ : q.validFor t r.cls = true ∧ qualsValid t r.cls quals = true := by
      simpa [qualsValid] using valid
    exact ih (h.qualified first) (by rwa [Record.qualified_cls])

/-! ## Carried fields (R31, R55) -/

/-- Carried fields after the clamps. -/
structure Carried.InRange (x : Carried) : Prop where
  force : x.force ≤ 2500
  limit : ∀ l ∈ x.limit, ∀ k ∈ l, k ≤ 2500
  lease : ∀ p ∈ x.lease, 1 ≤ p ∧ p ≤ 255

theorem clampLimit_le (l : Half) : ∀ k ∈ clampLimit l, k ≤ 2500 := by
  intro k hk
  unfold clampLimit at hk
  split_ifs at hk
  · cases hk
  · cases hk
    exact min_le_right _ _

theorem carriedFull_inRange (h : SettingsLaw s) (c : RecClass) (data : List Byte) (k : Nat) :
    (carriedFull (s.settings.row c) data k).InRange := by
  obtain ⟨-, ⟨low, -⟩, ⟨high, top⟩⟩ := h.row c
  refine ⟨min_le_right _ _, fun l hl => ?_, fun p hp => ?_⟩
  · cases hl
    exact clampLimit_le _
  · cases hp
    unfold clampLease
    omega

theorem carriedCompact_inRange (data : List Byte) : (carriedCompact data).InRange :=
  ⟨min_le_right _ _, by simp [carriedCompact], by simp [carriedCompact]⟩

theorem Carried.fitsClass_iff (x : Carried) (c : RecClass) :
    x.fitsClass c = true ↔ (c = .stability → x.force = 0 ∧ x.limit ≠ some none)
      ∧ (c ≠ .stability → ∀ l ∈ x.limit, l = none) := by
  unfold Carried.fitsClass
  split_ifs with cls
  · simp [cls]
  · rcases x.limit with _ | l <;> simp [cls]

/-! ## Amendments (R7, R16) -/

theorem Record.stage_fixed (r : Record) (p : Option Nat) :
    (r.stage p).owner = r.owner ∧ (r.stage p).handle = r.handle ∧ (r.stage p).cls = r.cls ∧ (r.stage p).state = r.state := by
  unfold Record.stage
  split
  · split_ifs <;> exact ⟨rfl, rfl, rfl, rfl⟩
  · exact ⟨rfl, rfl, rfl, rfl⟩

theorem foldl_qualified_fixed (quals : List Qualifier) (r : Record) :
    (quals.foldl Record.qualified r).owner = r.owner ∧ (quals.foldl Record.qualified r).handle = r.handle
      ∧ (quals.foldl Record.qualified r).cls = r.cls ∧ (quals.foldl Record.qualified r).state = r.state := by
  induction quals generalizing r with
  | nil => exact ⟨rfl, rfl, rfl, rfl⟩
  | cons q quals ih =>
    obtain ⟨owner, handle, cls, -, state, -⟩ := Record.qualified_fixed r q
    rw [List.foldl_cons, ← owner, ← handle, ← cls, ← state]
    exact ih (r.qualified q)

/-- An amendment leaves owner, handle, class and state. -/
theorem Record.amended_fixed (r : Record) (x : Carried) (quals : List Qualifier) :
    (r.amended x quals).owner = r.owner ∧ (r.amended x quals).handle = r.handle ∧ (r.amended x quals).cls = r.cls
      ∧ (r.amended x quals).state = r.state := by
  obtain ⟨owner, handle, cls, state⟩ := foldl_qualified_fixed quals { r with force := x.force, limit := x.limit.getD r.limit }
  obtain ⟨owner', handle', cls', state'⟩ :=
    (quals.foldl Record.qualified { r with force := x.force, limit := x.limit.getD r.limit }).promote.stage_fixed x.lease
  exact ⟨owner'.trans owner, handle'.trans handle, cls'.trans cls, state'.trans state⟩

theorem Record.fits.promote (h : r.fits t) : r.promote.fits t := by
  obtain ⟨force, limit, hasLimit, noForce, inhibit, sources, onset, axles, lease, lease', next⟩ := h
  have period : 1 ≤ r.promote.leasePeriod ∧ r.promote.leasePeriod ≤ 255 := by
    show 1 ≤ r.nextLease.getD r.leasePeriod ∧ r.nextLease.getD r.leasePeriod ≤ 255
    rcases staged : r.nextLease with _ | p
    · exact ⟨lease, lease'⟩
    · exact next p staged
  exact ⟨force, limit, hasLimit, noForce, inhibit, sources, onset, axles, period.1, period.2, nofun⟩

theorem Record.fits.stage (h : r.fits t) {p : Option Nat} (range : ∀ k ∈ p, 1 ≤ k ∧ k ≤ 255) : (r.stage p).fits t := by
  unfold Record.stage
  split
  · split_ifs
    · exact h
    · obtain ⟨force, limit, hasLimit, noForce, inhibit, sources, onset, axles, lease, lease', next⟩ := h
      exact ⟨force, limit, hasLimit, noForce, inhibit, sources, onset, axles, lease, lease', range⟩
  · exact h

theorem Record.fits.amended {quals : List Qualifier} (h : r.fits t) (range : x.InRange) (cls : x.fitsClass r.cls = true)
    (valid : qualsValid t r.cls quals = true) : (r.amended x quals).fits t := by
  have base : Record.fits { r with force := x.force, limit := x.limit.getD r.limit } t := by
    obtain ⟨-, limit, hasLimit, -, inhibit, sources, onset, axles, lease, lease', next⟩ := h
    obtain ⟨stability, other⟩ := (x.fitsClass_iff r.cls).1 cls
    refine ⟨range.force, ?_, ?_, fun e => (stability e).1, inhibit, sources, onset, axles, lease, lease', next⟩
    · rcases carried : x.limit with _ | l
      · exact limit
      · exact range.limit l carried
    · rcases carried : x.limit with _ | l
      · exact hasLimit
      · show l.isSome = true ↔ r.cls = .stability
        by_cases e : r.cls = .stability
        · have present : l ≠ none := fun absent => (stability e).2 (absent ▸ carried)
          exact iff_of_true (Option.isSome_iff_ne_none.2 present) e
        · rw [other e l carried]
          exact iff_of_false (by simp) e
  exact ((base.foldl_qualified valid).promote).stage range.lease

/-! ## New records (R32) -/

theorem newRecord_fixed (t : Settings) (n : Node) (h : Fin 4) (c : RecClass) (shared : Bool) (x : Carried)
    (quals : List Qualifier) :
    (newRecord t n h c shared x quals).owner = n ∧ (newRecord t n h c shared x quals).handle = h
      ∧ (newRecord t n h c shared x quals).cls = c ∧ (newRecord t n h c shared x quals).state = .active :=
  foldl_qualified_fixed quals _

theorem newRecord_fits (ranges : SettingsLaw s) (n : Node) (h : Fin 4) (shared : Bool) {data : List Byte} {k : Nat}
    {quals : List Qualifier} (cls : (carriedFull (s.settings.row c) data k).fitsClass c = true)
    (valid : qualsValid s.settings c quals = true) :
    (newRecord s.settings n h c shared (carriedFull (s.settings.row c) data k) quals).fits s.settings := by
  obtain ⟨⟨low, high⟩, -⟩ := ranges.row c
  obtain ⟨stability, other⟩ := (Carried.fitsClass_iff _ c).1 cls
  have range := carriedFull_inRange ranges c data k
  obtain ⟨lease, lease'⟩ := range.lease _ rfl
  refine Record.fits.foldl_qualified ⟨range.force, range.limit _ rfl, ?_, fun e => (stability e).1, ?_,
    SourceSet.ofMask_ne_empty low high, nofun, fun j hj => ?_, lease, lease', nofun⟩ valid
  · show (clampLimit _).isSome = true ↔ c = .stability
    by_cases e : c = .stability
    · have present : clampLimit (halfAt data (k + 2)) ≠ none := fun absent => (stability e).2 (congrArg some absent)
      exact iff_of_true (Option.isSome_iff_ne_none.2 present) e
    · rw [other e _ rfl]
      exact iff_of_false (by simp) e
  · cases c <;> rfl
  · simp [axleSetEmpty] at hj

end Sys2Proof.Machine
end

section
/-! PROOF. A change that keeps every law: the notion, and the changes of the queue, the latches, the monitors and the table. -/

namespace Sys2Proof.Machine
open Sys2Proof.Claims

/-- The change from s to t keeps each law. A field left out is a law none of whose blocks has changed. -/
structure Keeps (s t : State) : Prop where
  fallback : FallbackLaw s → FallbackLaw t := by exact id
  valid    : ValidLaw s → ValidLaw t := by exact id
  mode     : ModeLaw s → ModeLaw t := by exact id
  table    : TableLaw s → TableLaw t := by exact id
  monitor  : MonitorLaw s → MonitorLaw t := by exact id
  arbiter  : ArbiterLaw s → ArbiterLaw t := by exact id
  settings : SettingsLaw s → SettingsLaw t := by exact id
  record   : RecordLaw s → RecordLaw t := by exact id
  total    : TotalLaw s → TotalLaw t := by exact id
  pressure : PressureLaw s → PressureLaw t := by exact id
  account  : AccountLaw s → AccountLaw t := by exact id
  queue    : QueueLaw s → QueueLaw t := by exact id
  latch    : LatchLaw s → LatchLaw t := by exact id
  slot     : SlotLaw s → SlotLaw t := by exact id
  health   : HealthLaw s → HealthLaw t := by exact id
  intake   : IntakeLaw s → IntakeLaw t := by exact id
  duty     : DutyLaw s → DutyLaw t := by exact id

variable {s t u : State} {i j : SlotId} {r : Record} {n : Node}

theorem Keeps.refl (s : State) : Keeps s s := {}

theorem Keeps.trans (first : Keeps s t) (second : Keeps t u) : Keeps s u where
  fallback := second.fallback ∘ first.fallback
  valid := second.valid ∘ first.valid
  mode := second.mode ∘ first.mode
  table := second.table ∘ first.table
  monitor := second.monitor ∘ first.monitor
  arbiter := second.arbiter ∘ first.arbiter
  settings := second.settings ∘ first.settings
  record := second.record ∘ first.record
  total := second.total ∘ first.total
  pressure := second.pressure ∘ first.pressure
  account := second.account ∘ first.account
  queue := second.queue ∘ first.queue
  latch := second.latch ∘ first.latch
  slot := second.slot ∘ first.slot
  health := second.health ∘ first.health
  intake := second.intake ∘ first.intake
  duty := second.duty ∘ first.duty

/-- A change of the table, the monitors and the arbiter's structures alone. -/
theorem Keeps.of_table {d : Demand} {ms : Vector Monitor 16} {a : Arbiter}
    (e : t = { s with demand := d, monitors := ms, arbiter := a }) (table : TableLaw s → TableLaw t)
    (monitor : MonitorLaw s → MonitorLaw t) (arbiter : ArbiterLaw s → ArbiterLaw t) (record : RecordLaw s → RecordLaw t) :
    Keeps s t := by
  subst e
  exact { table := table, monitor := monitor, arbiter := arbiter, record := record }

/-! ## The queue and the latches -/

theorem keeps_enqueue (s : State) (frames : List VehicleFrame) : Keeps s (s.enqueue frames) := by
  rw [State.enqueue_eq]
  exact { queue := fun h => joined_length _ _ h }

theorem keeps_placeSummary (s : State) (a b : VehicleFrame) : Keeps s (s.placeSummary a b) := by
  rw [State.placeSummary_frame]
  exact { queue := fun h => s.placeSummary_length a b h }

theorem keeps_answer (s : State) (k : MsgKind) (n : Node) (hf : HandleField) (r : Reply) : Keeps s (s.answer k n hf r) :=
  keeps_enqueue s _

theorem keeps_report (s : State) (n : Node) (i : SlotId) : Keeps s (s.report n i) := by
  unfold State.report
  split
  · exact .refl s
  · exact keeps_enqueue s _

/-- A latch within R44. -/
structure Latch.Sound (l : Latch) : Prop where
  room  : l.quals.length ≤ 3
  kinds : (l.quals.map Qualifier.kind).Nodup
  timer : l.hold.isSome = true ↔ l.quals ≠ []

theorem latchLaw_iff (s : State) : LatchLaw s ↔ ∀ n : Node, s.latches[n].Sound :=
  ⟨fun h n => ⟨(h n).1, (h n).2.1, (h n).2.2⟩, fun h n => ⟨(h n).room, (h n).kinds, (h n).timer⟩⟩

theorem keeps_setLatch (s : State) (n : Node) {l : Latch} (sound : s.latches[n].Sound → l.Sound) :
    Keeps s { s with latches := s.latches.set n l } := by
  refine { latch := fun h => (latchLaw_iff _).2 fun m => ?_ }
  rw [latchLaw_iff] at h
  dsimp only
  rw [getElem_set_fin]
  split_ifs with own
  · exact sound (h n)
  · exact h m

theorem Latch.sound_empty : Latch.empty.Sound := ⟨by decide, by decide, by decide⟩

theorem keeps_emptyLatch (s : State) (n : Node) : Keeps s (s.emptyLatch n) := keeps_setLatch s n fun _ => Latch.sound_empty

theorem Latch.Sound.store {l : Latch} (h : l.Sound) {q : Qualifier} (hold : Nat)
    (fresh : l.quals.any (fun p => p.kind == q.kind) = false) (room : l.quals.length < 3) : (l.store q hold).Sound := by
  obtain ⟨-, kinds, timer⟩ := h
  have new : q.kind ∉ l.quals.map Qualifier.kind := by simpa [List.any_eq_false] using fresh
  refine ⟨by simpa [Latch.store] using room, by simpa [Latch.store] using kinds.concat new, ?_⟩
  rcases hq : l.quals with _ | ⟨p, ps⟩
  · simp [Latch.store, hq]
  · simp [Latch.store, hq, timer]

/-! ## The monitors -/

theorem keeps_clearMonitor (s : State) (n : Node) : Keeps s (s.clearMonitor n) := { monitor := fun h => h.clearMonitor n }

theorem keeps_setMonitor (n : Node) (hr : s.record i = some r) (live : r.live = true) :
    Keeps s (s.setMonitor n i (s.slot i).version) :=
  { monitor := fun h => h.setMonitor n hr live }

/-! ## The table -/

/-- A change of slots in which every record stays but for its cover. -/
theorem keeps_slots (v : Vector Slot 24) (same : ∀ j : SlotId, Restated (s.slot j) v[j])
    (state : ∀ j : SlotId, (v[j].record).map (fun r => (r.cls, r.state)) = (s.record j).map fun r => (r.cls, r.state)) :
    Keeps s { s with demand := { s.demand with slots := v } } :=
  .of_table rfl (fun h => h.restates rfl same) (fun h => h.restates rfl same) (fun h => h.congr rfl state)
    fun h => h.restates rfl rfl same

theorem keeps_freeSlot (stale : ∀ r ∈ s.record i, r.state = .stale) : Keeps s (s.freeSlot i) := by
  have others (j : SlotId) (ne : j ≠ i) : (s.freeSlot i).record j = s.record j := by
    rw [State.freeSlot_record, if_neg ne.symm]
  refine .of_table rfl (fun h => h.freeSlot i) (fun h => h.clear (i := i) rfl fun j ne => ?_)
    (fun h => h.of_stale rfl others stale fun r hr => ?_) fun h => h.freeSlot i
  · rw [State.freeSlot_slot, if_neg ne.symm]
  · rw [State.freeSlot_record, if_pos rfl] at hr
    cases hr

/-- The record in slot i is rewritten, but for owner, handle, class and state. -/
theorem keeps_rewrite {x : Slot} {q : Record} {ms : Vector Monitor 16} (hr : s.record i = some r) (hx : x.record = some q)
    (fixed : q.owner = r.owner ∧ q.handle = r.handle ∧ q.cls = r.cls ∧ q.state = r.state) (running : x.countdown.isSome = true)
    (fits : SettingsLaw s → r.fits s.settings → q.fits s.settings)
    (monitor : MonitorLaw s → MonitorLaw { s.putSlot i x with monitors := ms }) :
    Keeps s { s.putSlot i x with monitors := ms } := by
  obtain ⟨owner, handle, cls, state⟩ := fixed
  have rewritten (j : SlotId) : (s.putSlot i x).record j = if i = j then some q else s.record j := by
    rw [State.putSlot_record, hx]
  have same {α : Type} (f : Record → α) (hf : f q = f r) (j : SlotId) :
      ((s.putSlot i x).record j).map f = (s.record j).map f := by
    rw [rewritten]
    split_ifs with own
    · rw [← own, hr, Option.map_some, Option.map_some, hf]
    · rfl
  refine .of_table (d := (s.putSlot i x).demand) (ms := ms) (a := s.arbiter) rfl
    (fun h => h.congr rfl (same _ (by rw [owner, handle])) fun j => ?_) monitor
    (fun h => h.congr rfl (same _ (by rw [cls, state]))) fun h => h.keep rfl rfl fun j p hp => ?_
  · show ((s.putSlot i x).slot j).countdown.isSome = ((s.putSlot i x).record j).isSome
    rw [State.putSlot_slot, rewritten]
    split_ifs
    · exact running
    · exact h.2.2.2 j
  · have record : p ∈ (s.putSlot i x).record j := hp
    rw [rewritten] at record
    split_ifs at record with own
    · cases record
      exact ⟨r, own ▸ hr, fits h.1⟩
    · exact ⟨p, record, id⟩

/-- A record rewritten at its version, its state standing, leaves the monitors that name it valid. -/
theorem MonitorLaw.rewrite {x : Slot} {q : Record} (h : MonitorLaw s) (hr : s.record i = some r) (hx : x.record = some q)
    (version : x.version = (s.slot i).version) (state : q.state = r.state) : MonitorLaw (s.putSlot i x) := by
  refine h.keep fun m _ => ⟨rfl, ?_⟩
  rw [State.putSlot_slot]
  split_ifs with own
  · refine ⟨own ▸ version, fun ⟨p, hp, live⟩ => ⟨q, hx, ?_⟩⟩
    obtain rfl : r = p := Option.mem_unique (show r ∈ s.record _ from own ▸ hr) hp
    rwa [Record.live, state]
  · exact .refl _

theorem keeps_renewSlot (s : State) (i : SlotId) : Keeps s (s.renewSlot i) := by
  unfold State.renewSlot
  split
  · exact .refl s
  next r hr =>
    exact keeps_rewrite (ms := s.monitors) hr rfl ⟨rfl, rfl, rfl, rfl⟩ rfl (fun _ h => h.promote) fun h =>
      h.rewrite hr rfl rfl rfl

theorem keeps_amendSlot (hr : s.record i = some r) {x : Carried} {quals : List Qualifier}
    (fits : SettingsLaw s → r.fits s.settings → (r.amended x quals).fits s.settings) :
    Keeps s (s.amendSlot i x quals) := by
  unfold State.amendSlot
  rw [hr]
  dsimp only
  split_ifs with moved
  · refine keeps_rewrite hr rfl (r.amended_fixed x quals) rfl fits fun h => h.clear (i := i) rfl fun j ne => ?_
    exact (State.putSlot_slot s i j _).trans (if_neg ne.symm)
  · exact keeps_rewrite (ms := s.monitors) hr rfl (r.amended_fixed x quals) rfl fits fun h =>
      h.rewrite hr rfl rfl (r.amended_fixed x quals).2.2.2

/-- A STALE record is admitted again (R11). -/
theorem keeps_admissionTest (hr : s.record i = some r) (stale : r.state = .stale) : Keeps s (s.admissionTest i) := by
  have restated := s.restates_admissionTest i
  have frame := s.admissionTest_frame i
  have age : (s.admissionTest i).demand.age = s.demand.age := congrArg (·.demand.age) frame
  have monitors : (s.admissionTest i).monitors = s.monitors := congrArg (·.monitors) frame
  have settings : (s.admissionTest i).settings = s.settings := congrArg (·.settings) frame
  have ctl : (s.admissionTest i).ctl = s.ctl := congrArg (·.ctl) frame
  refine .of_table frame (fun h => h.restates age restated) (fun h => h.restates monitors restated) (fun h => ?_)
    fun h => h.restates settings (congrArg _ ctl) restated
  refine h.admissionTest rfl (fun _ _ => rfl) (fun q hq => ?_) hr
  rw [hr] at hq
  cases hq
  exact stale

end Sys2Proof.Machine
end

section
/-! PROOF. The requester messages and the ends of leases and graces keep every law. -/

namespace Sys2Proof.Machine
open Sys2Proof.Claims

variable {s t : State} {i j : SlotId} {r : Record} {n : Node} {hf : HandleField} {data : List Byte}

/-! ## Departures (R9, R10, R13) -/

/-- A slot is freed or made STALE and departs. -/
theorem keeps_depart {d : Demand} {ms : Vector Monitor 16} (e : t = { s with demand := d, monitors := ms })
    (table : TableLaw s → TableLaw t) (monitor : MonitorLaw s → MonitorLaw t) (record : RecordLaw s → RecordLaw t)
    (others : ∀ j ≠ i, t.record j = s.record j) (stale : ∀ r ∈ t.record i, r.state = .stale) : Keeps s (t.depart i) := by
  subst e
  generalize changed : { s with demand := d, monitors := ms } = t at table monitor record others stale ⊢
  have restated := t.restates_depart i
  have frame := t.depart_frame i
  have age : (t.depart i).demand.age = t.demand.age := congrArg (·.demand.age) frame
  have monitors : (t.depart i).monitors = t.monitors := congrArg (·.monitors) frame
  have settings : (t.depart i).settings = t.settings := congrArg (·.settings) frame
  have ctl : (t.depart i).ctl = t.ctl := congrArg (·.ctl) frame
  have arbiter : t.arbiter = s.arbiter := congrArg (·.arbiter) changed.symm
  subst changed
  exact .of_table frame (fun h => (table h).restates age restated)
    (fun h => (monitor h).restates monitors restated) (fun h => h.depart arbiter others stale)
    fun h => (record h).restates settings (congrArg _ ctl) restated

theorem keeps_release (s : State) (i : SlotId) : Keeps s ((s.freeSlot i).depart i) := by
  refine keeps_depart rfl (fun h => h.freeSlot i) (fun h => h.clear (i := i) rfl fun j ne => ?_) (fun h => h.freeSlot i)
    (fun j ne => ?_) fun r hr => ?_
  · rw [State.freeSlot_slot, if_neg ne.symm]
  · rw [State.freeSlot_record, if_neg ne.symm]
  · rw [State.freeSlot_record, if_pos rfl] at hr
    cases hr

/-- A record made STALE, its slot's countdown running and the monitors that name it cleared, departs. -/
theorem keeps_staleDepart {x : Slot} (hr : s.record i = some r)
    (hx : x.record = some { r with state := .stale, cover := .unserved }) (running : x.countdown.isSome = true) :
    Keeps s (((s.putSlot i x).clearMonitorsOf i).depart i) := by
  have record (j : SlotId) : ((s.putSlot i x).clearMonitorsOf i).record j = if i = j then x.record else s.record j :=
    s.putSlot_record i j x
  have slot (j : SlotId) : ((s.putSlot i x).clearMonitorsOf i).slot j = if i = j then x else s.slot j :=
    s.putSlot_slot i j x
  refine keeps_depart (d := (s.putSlot i x).demand) (ms := (s.clearMonitorsOf i).monitors) rfl (fun h => ?_) (fun h => ?_)
    (fun h => ?_) (fun j ne => ?_) fun q hq => ?_
  · refine h.congr rfl (fun j => ?_) fun j => ?_
    · rw [record]
      split_ifs with own
      · rw [← own, hr, hx]
        rfl
      · rfl
    · rw [slot, record]
      split_ifs
      · rw [running, hx]
        rfl
      · exact h.2.2.2 j
  · refine h.clear (i := i) rfl fun j ne => ?_
    rw [slot, if_neg ne.symm]
  · refine RecordLaw.keep h rfl rfl fun j q hq => ?_
    rw [record] at hq
    split_ifs at hq with own
    · rw [hx] at hq
      cases hq
      exact ⟨r, own ▸ hr, id⟩
    · exact ⟨q, hq, id⟩
  · rw [record, if_neg ne.symm]
  · rw [record, if_pos rfl, hx] at hq
    cases hq
    rfl

theorem keeps_leaseExpires (s : State) (i : SlotId) : Keeps s (s.leaseExpires i) := by
  unfold State.leaseExpires
  split
  · exact .refl s
  next r hr =>
    split_ifs
    · refine keeps_staleDepart hr ?_ rfl
      show ((s.slot i).enter .stale).record = _
      rw [Slot.enter_eq_becomes, becomes_record, show (s.slot i).record = some r from hr]
      rfl
    · exact .refl s

theorem keeps_graceExpires (s : State) (i : SlotId) : Keeps s (s.graceExpires i) := by
  unfold State.graceExpires
  split_ifs with stale
  · refine keeps_freeSlot fun r hr => ?_
    rw [Option.mem_def.1 hr] at stale
    simpa using stale
  · exact .refl s

/-! ## OPEN -/

/-- What an admitted plan of an OPEN says of the state (R33). -/
structure OpenPlan.Admits (p : OpenPlan) (s : State) : Prop where
  running  : s.ctl.mode ≠ .setup
  replaced : p.replaced = s.findHandle p.record.owner p.record.handle
  stale    : ∀ k ∈ p.replaced, ∀ r ∈ s.record k, r.state = .stale
  free     : s.record p.slot = none ∨ p.replaced = some p.slot
  fits     : SettingsLaw s → p.record.fits s.settings

theorem OpenPlan.admits {p : OpenPlan} (ok : s.openCheck n hf data = .ok p) : p.Admits s := by
  unfold State.openCheck at ok
  split at ok
  · cases ok
  next setup =>
  split at ok
  · cases ok
  next h _ =>
  split at ok
  · cases ok
  split at ok
  · cases ok
  next c _ =>
  dsimp only at ok
  split at ok
  · cases ok
  next inUse =>
  split at ok
  · cases ok
  next i free =>
  split at ok
  · cases ok
  next misfit =>
  split at ok
  · cases ok
  next invalid =>
  cases ok
  obtain ⟨owner, handle, -, -⟩ := newRecord_fixed s.settings n h c ((byteAt data 1).getLsbD 0)
    (carriedFull (s.settings.row c) data 2) (s.quals n)
  refine ⟨setup, ?_, fun k hk r hr => ?_, ?_, fun ranges => ?_⟩
  · dsimp only
    rw [owner, handle]
  · by_contra live
    refine inUse ?_
    have found : s.findHandle n h = some k := hk
    simpa [found, Option.mem_def.1 hr, Record.live] using live
  · have := (lowestSlot_some free).1
    simpa using this
  · exact newRecord_fits ranges n h _ (by simpa using misfit) (by simpa using invalid)

/-- The state of an admitted OPEN before its record is created. -/
def State.vacated (s : State) (k : Option SlotId) : State :=
  match k with
  | some k => s.freeSlot k
  | none => s

theorem State.openAdmit_eq (s : State) (p : OpenPlan) :
    s.openAdmit p = ((s.vacated p.replaced).createRecord p.slot p.record).admissionTest p.slot := by
  unfold State.openAdmit State.vacated
  rcases p.replaced with _ | k <;> rfl

theorem keeps_vacated {k : Option SlotId} (stale : ∀ i ∈ k, ∀ r ∈ s.record i, r.state = .stale) : Keeps s (s.vacated k) := by
  rcases k with _ | k
  · exact .refl s
  · exact keeps_freeSlot (stale k rfl)

theorem State.vacated_record (s : State) (k : Option SlotId) (j : SlotId) :
    (s.vacated k).record j = if k = some j then none else s.record j := by
  rcases k with _ | k
  · simp [State.vacated]
  · simp [State.vacated, State.freeSlot_record]

theorem State.vacated_frame (s : State) (k : Option SlotId) :
    s.vacated k = { s with demand := (s.vacated k).demand, monitors := (s.vacated k).monitors } := by
  rcases k with _ | k <;> rfl

/-- No slot but the one found holds the owner's handle (R1). -/
theorem TableLaw.findHandle (h : TableLaw s) {q : Record} {m : Fin 4} (hq : s.record j = some q) (owner : q.owner = n)
    (handle : q.handle = m) : s.findHandle n m = some j := by
  rcases found : s.findHandle n m with _ | i
  · have := lowestSlot_none.1 found j
    simp [hq, owner, handle] at this
  · obtain ⟨r, hr, o, d⟩ := s.findHandle_some found
    rw [h.2.2.1 i j r hr q hq (o.trans owner.symm) (d.trans handle.symm)]

theorem State.admissionTest_table {d : Demand} {ms : Vector Monitor 16} (e : t = { s with demand := d, monitors := ms })
    (i : SlotId) :
    t.admissionTest i = { s with
      demand := (t.admissionTest i).demand, monitors := ms, arbiter := (t.admissionTest i).arbiter } := by
  have frame := t.admissionTest_frame i
  generalize t.admissionTest i = u at frame ⊢
  rw [frame, e]

theorem keeps_openAdmit {p : OpenPlan} (admits : p.Admits s) : Keeps s (s.openAdmit p) := by
  obtain ⟨running, replaced, stale, free, fits⟩ := admits
  have vacated := keeps_vacated stale
  have frame := s.vacated_frame p.replaced
  have settings : (s.vacated p.replaced).settings = s.settings := congrArg (·.settings) frame
  have ctl : (s.vacated p.replaced).ctl = s.ctl := congrArg (·.ctl) frame
  have empty : (s.vacated p.replaced).record p.slot = none := by
    rw [State.vacated_record]
    split_ifs with own
    · rfl
    · exact free.resolve_right own
  rw [State.openAdmit_eq]
  generalize created : (s.vacated p.replaced).createRecord p.slot p.record = t
  have record (j : SlotId) : t.record j = if p.slot = j then some p.record else (s.vacated p.replaced).record j := by
    rw [← created, State.createRecord_record]
  have restated := t.restates_admissionTest p.slot
  have after := t.admissionTest_frame p.slot
  have age : (t.admissionTest p.slot).demand.age = t.demand.age := congrArg (·.demand.age) after
  have monitors : (t.admissionTest p.slot).monitors = t.monitors := congrArg (·.monitors) after
  have settings' : (t.admissionTest p.slot).settings = t.settings := congrArg (·.settings) after
  have ctl' : (t.admissionTest p.slot).ctl = t.ctl := congrArg (·.ctl) after
  refine .of_table (d := (t.admissionTest p.slot).demand) (ms := t.monitors) (a := (t.admissionTest p.slot).arbiter) ?_
    (fun h => .restates ?_ age restated) (fun h => .restates ?_ monitors restated) (fun h => ?_)
    fun h => .restates ?_ settings' (congrArg _ ctl') restated
  · refine State.admissionTest_table (d := t.demand) ?_ p.slot
    rw [← created, State.createRecord, frame]
    rfl
  · rw [← created]
    refine (vacated.table h).createRecord empty fun j q hq owner handle => ?_
    rw [State.vacated_record] at hq
    split_ifs at hq with own
    · cases hq
    · exact own (replaced.trans (h.findHandle hq owner handle))
  · rw [← created]
    refine (vacated.monitor h).clear (i := p.slot) rfl fun j ne => ?_
    rw [State.createRecord_slot, if_neg ne.symm]
  · refine (vacated.arbiter h).admissionTest (t := t) (by rw [← created]; rfl) (fun j ne => ?_) (fun r hr => ?_)
      (r := p.record) (by rw [record, if_pos rfl])
    · rw [record, if_neg ne.symm]
    · rw [empty] at hr
      cases hr
  · rw [← created]
    refine (vacated.record h).createRecord (ctl ▸ running) ?_
    rw [settings]
    exact fits h.1

theorem keeps_takeOpen (s : State) (n : Node) (hf : HandleField) (data : List Byte) : Keeps s (s.takeOpen n hf data) := by
  unfold State.takeOpen
  split
  · exact (keeps_emptyLatch s n).trans (keeps_answer _ _ _ _ _)
  next p ok =>
    obtain ⟨running, replaced, stale, free, fits⟩ := OpenPlan.admits ok
    exact ((keeps_emptyLatch s n).trans (keeps_openAdmit (s := s.emptyLatch n) ⟨running, replaced, stale, free, fits⟩)).trans
      (keeps_answer _ _ _ _ _)

/-! ## AMEND and AMEND_IF -/

/-- What an accepted plan of an amendment says of the record it amends (R36, R38). -/
structure AmendPlan.Admits (p : AmendPlan) (s : State) (quals : List Qualifier) (r : Record) : Prop where
  found : s.record p.slot = some r
  fits  : SettingsLaw s → r.fits s.settings → (r.amended p.carried quals).fits s.settings

theorem AmendPlan.admits_of_fields {p : AmendPlan} {x : Carried} (hr : s.record i = some r)
    (range : SettingsLaw s → x.InRange) (ok : s.amendFieldCheck n i r.cls x = .ok p) : p.Admits s (s.quals n) r := by
  unfold State.amendFieldCheck at ok
  split_ifs at ok with misfit invalid
  cases ok
  exact ⟨hr, fun ranges h => h.amended (range ranges) (by simpa using misfit) (by simpa using invalid)⟩

theorem State.ownRecord_some {h : Fin 4} (e : s.ownRecord n h = some (i, r)) : s.findHandle n h = some i ∧ s.record i = some r := by
  unfold State.ownRecord at e
  obtain ⟨k, hk, e⟩ := Option.bind_eq_some_iff.1 e
  obtain ⟨q, hq, e⟩ := Option.map_eq_some_iff.1 e
  cases e
  exact ⟨hk, hq⟩

theorem AmendPlan.admits {p : AmendPlan} (ok : s.amendCheck n hf data = .ok p) : ∃ r, p.Admits s (s.quals n) r := by
  unfold State.amendCheck at ok
  split at ok
  · cases ok
  split at ok
  · cases ok
  split at ok
  · cases ok
  split at ok
  · cases ok
  next i r own =>
  obtain ⟨-, hr⟩ := State.ownRecord_some own
  split_ifs at ok
  · exact ⟨r, AmendPlan.admits_of_fields hr (fun _ => carriedCompact_inRange data) ok⟩
  · exact ⟨r, AmendPlan.admits_of_fields hr (fun ranges => carriedFull_inRange ranges r.cls data 0) ok⟩

theorem State.reservationTest_some {slot version : Byte} (e : s.reservationTest n slot version = some (i, r)) :
    asSlot slot = some i ∧ s.record i = some r ∧ s.monitors[n].valid = true ∧ s.monitors[n].slot = i
      ∧ s.monitors[n].version = version ∧ r.live = true ∧ (s.slot i).version = version := by
  unfold State.reservationTest at e
  split at e
  · cases e
  next k hk =>
  dsimp only at e
  split at e
  · cases e
  next q hq =>
  split_ifs at e with holds
  cases e
  simp only [Bool.and_eq_true, beq_iff_eq] at holds
  obtain ⟨⟨⟨⟨valid, names⟩, reserved⟩, live⟩, stands⟩ := holds
  exact ⟨hk, hq, valid, names, reserved, live, stands⟩

theorem AmendPlan.admits_if {p : AmendPlan} (ok : s.amendIfCheck n data = .ok p) : ∃ r, p.Admits s (s.quals n) r := by
  unfold State.amendIfCheck at ok
  split at ok
  · cases ok
  split at ok
  · cases ok
  split at ok
  · cases ok
  next i r reserved =>
  obtain ⟨-, hr, -⟩ := State.reservationTest_some reserved
  exact ⟨r, AmendPlan.admits_of_fields hr (fun ranges => carriedFull_inRange ranges r.cls data 2) ok⟩

theorem State.amendSlot_slot (hr : s.record i = some r) (x : Carried) (quals : List Qualifier) (j : SlotId) :
    (s.amendSlot i x quals).slot j =
      if i = j then
        { s.slot i with
          record := some (r.amended x quals)
          countdown := some (10 * (r.amended x quals).leasePeriod)
          version := if r.contentMoved (r.amended x quals) then (s.slot i).version + 1 else (s.slot i).version }
      else s.slot j := by
  unfold State.amendSlot
  rw [hr]
  dsimp only
  split <;> exact s.putSlot_slot i j _

theorem keeps_amendApply {p : AmendPlan} {quals : List Qualifier} (admits : p.Admits s quals r) :
    Keeps s (s.amendApply p quals) := by
  obtain ⟨hr, fits⟩ := admits
  have amended := keeps_amendSlot hr fits
  unfold State.amendApply
  dsimp only
  split_ifs with live
  · exact amended
  · refine amended.trans (keeps_admissionTest (r := r.amended p.carried quals) ?_ ?_)
    · rw [State.record_eq, State.amendSlot_slot hr, if_pos rfl]
    · rw [(r.amended_fixed p.carried quals).2.2.2]
      simpa [hr, Record.live] using live

theorem keeps_takeAmend (s : State) (n : Node) (hf : HandleField) (data : List Byte) : Keeps s (s.takeAmend n hf data) := by
  unfold State.takeAmend
  split
  · exact (keeps_emptyLatch s n).trans (keeps_answer _ _ _ _ _)
  next p ok =>
    obtain ⟨r, found, fits⟩ := AmendPlan.admits ok
    exact ((keeps_emptyLatch s n).trans (keeps_amendApply (s := s.emptyLatch n) ⟨found, fits⟩)).trans (keeps_answer _ _ _ _ _)

theorem keeps_takeAmendIf (s : State) (n : Node) (hf : HandleField) (data : List Byte) :
    Keeps s (s.takeAmendIf n hf data) := by
  have base := (keeps_emptyLatch s n).trans (keeps_clearMonitor _ n)
  unfold State.takeAmendIf
  dsimp only
  split
  · exact base.trans (keeps_answer _ _ _ _ _)
  next p ok =>
    obtain ⟨r, found, fits⟩ := AmendPlan.admits_if ok
    exact (base.trans (keeps_amendSlot (s := (s.emptyLatch n).clearMonitor n) found fits)).trans (keeps_answer _ _ _ _ _)

/-! ## RENEW, RELEASE, QUERY, RESERVE, QUALIFY -/

theorem keeps_takeRenew (s : State) (n : Node) (hf : HandleField) : Keeps s (s.takeRenew n hf) := by
  unfold State.takeRenew
  split
  · exact keeps_answer _ _ _ _ _
  · split_ifs
    · exact (keeps_renewSlot s _).trans (keeps_answer _ _ _ _ _)
    · exact keeps_answer _ _ _ _ _

theorem keeps_takeRelease (s : State) (n : Node) (hf : HandleField) : Keeps s (s.takeRelease n hf) := by
  unfold State.takeRelease
  split
  · exact keeps_answer _ _ _ _ _
  · exact ((keeps_release s _).trans (keeps_emptyLatch _ n)).trans (keeps_answer _ _ _ _ _)

theorem keeps_takeQuery (s : State) (n : Node) (hf : HandleField) (data : List Byte) : Keeps s (s.takeQuery n hf data) := by
  unfold State.takeQuery
  split
  · exact keeps_answer _ _ _ _ _
  · exact keeps_report _ _ _

theorem State.reserveCheck_ok (ok : s.reserveCheck n data = .ok i) : ∃ r, s.record i = some r ∧ r.live = true := by
  unfold State.reserveCheck at ok
  split at ok
  · cases ok
  split at ok
  · cases ok
  split at ok
  · cases ok
  split at ok
  · cases ok
  next r hr =>
  split_ifs at ok with stale <;> cases ok <;> exact ⟨r, hr, by simpa using stale⟩

theorem keeps_takeReserve (s : State) (n : Node) (hf : HandleField) (data : List Byte) :
    Keeps s (s.takeReserve n hf data) := by
  unfold State.takeReserve
  split
  · exact (keeps_clearMonitor s n).trans (keeps_answer _ _ _ _ _)
  next i ok =>
    obtain ⟨r, hr, live⟩ := State.reserveCheck_ok ok
    exact (keeps_setMonitor n hr live).trans (keeps_report _ _ _)

theorem State.qualifyCheck_ok {q : Qualifier} (ok : s.qualifyCheck n data = .ok q) :
    (s.quals n).any (fun p => p.kind == q.kind) = false ∧ (s.quals n).length < 3 := by
  unfold State.qualifyCheck at ok
  split at ok
  · cases ok
  split at ok
  · cases ok
  split at ok
  · cases ok
  split_ifs at ok with shadowed full
  cases ok
  exact ⟨by simpa using shadowed, Nat.not_le.1 full⟩

theorem keeps_takeQualify (s : State) (n : Node) (hf : HandleField) (data : List Byte) :
    Keeps s (s.takeQualify n hf data) := by
  unfold State.takeQualify
  split
  · exact keeps_answer _ _ _ _ _
  next q ok =>
    obtain ⟨fresh, room⟩ := State.qualifyCheck_ok ok
    exact (keeps_setLatch s n fun sound => sound.store _ fresh room).trans (keeps_answer _ _ _ _ _)

theorem keeps_takeMessage (s : State) (c : Instr) : Keeps s (s.takeMessage c) := by
  unfold State.takeMessage
  split
  · exact keeps_takeOpen _ _ _ _
  · exact keeps_takeAmend _ _ _ _
  · exact keeps_takeAmend _ _ _ _
  · exact keeps_takeAmendIf _ _ _ _
  · exact keeps_takeRenew _ _ _
  · exact keeps_takeRelease _ _ _
  · exact keeps_takeQuery _ _ _ _
  · exact keeps_takeReserve _ _ _ _
  · exact keeps_takeQualify _ _ _ _
  · exact .refl s

theorem keeps_takeVehicleFrame (s : State) (f : CanFrame) : Keeps s (s.takeVehicleFrame f) := by
  unfold State.takeVehicleFrame
  split
  · exact keeps_takeMessage s _
  · exact .refl s

end Sys2Proof.Machine
end

section
/-! PROOF. The changes of the other blocks keep every law: the transmit slots, health, the mode controller, the intake and the
figures of a pass. -/

namespace Sys2Proof.Machine
open Sys2Proof.Claims

variable {s t : State} {i j : SlotId} {r : Record} {n : Node}

/-! ## The chassis transmit slots (R124) -/

/-- Transmit slots within R124. -/
def ChassisTx.Sound (c : ChassisTx) : Prop :=
  ∀ k : Fin 4, (c.slots[k].behind.isSome = true → c.slots[k].begun = true)
    ∧ (c.slots[k].begun = true → c.slots[k].front.isSome = true) ∧ (c.onAir = some k → c.slots[k].begun = true)

variable {c : ChassisTx} {k : Fin 4}

theorem ChassisTx.Sound.handOver (h : c.Sound) (k : Fin 4) (f : ChassisFrame) : (c.handOver k f).Sound := by
  intro j
  obtain ⟨behind, begun, air⟩ := h j
  rw [ChassisTx.handOver_slots, ChassisTx.handOver_onAir]
  split_ifs with own waits
  · subst own
    exact ⟨fun _ => waits, begun, air⟩
  · subst own
    exact ⟨behind, fun _ => rfl, air⟩
  · exact ⟨behind, begun, air⟩

theorem ChassisTx.Sound.settled (h : c.Sound) (offered : c.lowestOffered = some k) (lost begun : Bool) :
    (c.settled k lost begun).Sound := by
  have front : c.slots[k].front.isSome = true := Option.isSome_iff_ne_none.2 (ChassisTx.lowestOffered_some offered).1
  rcases c.settled_cases k lost begun with e | e | e <;> rw [e]
  · exact h
  · exact fun j => ⟨(h j).1, (h j).2.1, nofun⟩
  · intro j
    obtain ⟨behind, started, air⟩ := h j
    dsimp only
    rw [getElem_set_fin]
    split_ifs with own
    · exact ⟨fun _ => rfl, fun _ => front, fun _ => rfl⟩
    · exact ⟨behind, started, fun e => absurd (Option.some.inj e) own⟩

theorem ChassisTx.Sound.sent (h : c.Sound) (lost : Bool) (offered : c.lowestOffered = some k) : (c.sent lost).Sound := by
  obtain ⟨m, -, e⟩ := c.sent_cases lost offered
  rw [e]
  intro j
  obtain ⟨behind, started, -⟩ := h j
  dsimp only
  rw [getElem_set_fin]
  split_ifs
  · exact ⟨nofun, nofun, nofun⟩
  · exact ⟨behind, started, nofun⟩

theorem keeps_chassisTx (s : State) {c : ChassisTx} (k : Nat) (sound : s.chassisTx.Sound → c.Sound) :
    Keeps s { s with chassisTx := c, freeCount := k } :=
  { slot := sound }

theorem sound_settleOnAir (h : s.chassisTx.Sound) : s.settleOnAir.chassisTx.Sound := by
  unfold State.settleOnAir
  split
  · exact h
  next k offered => exact h.settled offered _ _

theorem keeps_handSetPoints (s : State) : Keeps s s.handSetPoints := by
  rw [State.handSetPoints_frame]
  refine keeps_chassisTx s _ fun h => ?_
  unfold State.handSetPoints
  dsimp only
  refine List.foldlRecOn _ _ ((sound_settleOnAir h).handOver _ _) fun c hc j _ => ?_
  split_ifs
  · exact hc.handOver _ _
  · exact hc

theorem keeps_chassisSent (s : State) : Keeps s s.chassisSent := by
  unfold State.chassisSent
  split
  · exact .refl s
  next k offered => exact keeps_chassisTx s _ fun h => h.sent _ offered

/-! ## Health (R83, R84) -/

/-- An entry is replaced: by FAULT when its timer is stopped, and in SETUP only by silence or while its timer ran. -/
theorem keeps_put (s : State) (x : HealthSource) {e : HealthEntry} (fault : e.timer = none → e.value = .fault)
    (setup : s.ctl.mode = .setup → e = .silent ∨ (s.health.entry x).timer.isSome = true) :
    Keeps s { s with health := s.health.put x e } := by
  refine { health := fun ⟨stopped, silent⟩ => ⟨fun y hy => ?_, fun inSetup y hy => ?_⟩ }
  · rw [HealthMonitor.put_entry]
    split_ifs
    · exact fault
    · exact stopped y hy
  · rw [HealthMonitor.put_entry]
    split_ifs with own
    · refine (setup inSetup).resolve_right fun running => ?_
      rw [own, silent inSetup y hy] at running
      cases running
    · exact silent inSetup y hy

theorem keeps_takeHealth (s : State) (actuator code : Byte) : Keeps s (s.takeHealth actuator code) := by
  unfold State.takeHealth
  split_ifs with setup
  · exact .refl s
  · split
    · exact keeps_put s _ nofun fun e => absurd e setup
    · exact .refl s

theorem keeps_statusExpires (s : State) (x : HealthSource) : Keeps s (s.statusExpires x) :=
  keeps_put s x (fun _ => rfl) fun _ => .inl rfl

theorem HealthMonitor.silent_entry (x : HealthSource) : HealthMonitor.silent.entry x = .silent := by
  cases x <;> simp [HealthMonitor.silent, HealthMonitor.entry]

/-! ## The mode controller (R144, R145) -/

/-- A mode controller within its law. -/
structure ModeControl.Lawful (c : ModeControl) : Prop where
  timer    : c.lossHold.isSome = true ↔ c.mode = .loss
  recovery : c.recovery ≤ 2
  sigma    : c.sigma ≤ 999
  counts   : c.recovery ≠ 0 → c.mode = .loss ∨ c.mode = .failsafe

theorem modeLaw_iff (s : State) : ModeLaw s ↔ s.ctl.Lawful :=
  ⟨fun ⟨timer, recovery, sigma, counts⟩ => ⟨timer, recovery, sigma, counts⟩,
    fun ⟨timer, recovery, sigma, counts⟩ => ⟨timer, recovery, sigma, counts⟩⟩

/-- The FALLBACK line agrees with the mode (R145). -/
abbrev ModeControl.Shows (c : ModeControl) : Prop := c.fallback = c.mode.assertsFallback

/-- The mode controller changes, SETUP being neither entered nor left. -/
theorem keeps_ctl (s : State) {c : ModeControl} (setup : c.mode = .setup ↔ s.ctl.mode = .setup)
    (valid : c.settingsValid = s.ctl.settingsValid) (shows : s.ctl.Shows → c.Shows) (lawful : s.ctl.Lawful → c.Lawful) :
    Keeps s { s with ctl := c } where
  fallback := shows
  valid h := by
    show c.settingsValid = true ↔ c.mode ≠ .setup
    rw [valid, Ne, setup]
    exact h
  mode h := (modeLaw_iff _).2 (lawful ((modeLaw_iff s).1 h))
  record := fun ⟨ranges, empty, fits⟩ => ⟨ranges, fun e => empty (setup.1 e), fits⟩
  pressure := fun ⟨ranges, atRest, set⟩ => ⟨ranges, fun e => atRest (setup.1 e), set⟩
  account := fun ⟨ranges, h, set⟩ => by
    refine ⟨ranges, ?_, fun j a ha => ⟨(set j a ha).1, (set j a ha).2.1, fun e => (set j a ha).2.2 (mt setup.2 e)⟩⟩
    show c.settingsValid = true ↔ c.mode ≠ .setup
    rw [valid, Ne, setup]
    exact h
  health := fun ⟨stopped, silent⟩ => ⟨stopped, fun e => silent (setup.1 e)⟩
  intake := fun ⟨held, heldDt, passDt, lastV, waits⟩ => ⟨held, heldDt, passDt, lastV, fun e => waits (setup.1 e)⟩
  duty := fun ⟨count, warn, stopped⟩ => ⟨count, warn, fun e => stopped (setup.1 e)⟩

/-- A mode other than SETUP, LOSS and FAILSAFE: the loss hold timer is stopped and the recovery count 0. -/
abbrev Mode.Quiet (m : Mode) : Prop := m = .startup ∨ m = .normal ∨ m = .hold

/-- The mode changes among those in which the mode controller counts nothing. -/
theorem keeps_setMode {m : Mode} (before : s.ctl.mode.Quiet) (after : m.Quiet) : Keeps s (s.setMode m) := by
  refine keeps_ctl s ?_ rfl (fun _ => rfl) fun ⟨timer, recovery, sigma, counts⟩ => ⟨?_, recovery, sigma, fun h => ?_⟩
  · show m = .setup ↔ s.ctl.mode = .setup
    rcases before with h | h | h <;> rcases after with rfl | rfl | rfl <;> simp [h]
  · refine timer.trans ?_
    show s.ctl.mode = .loss ↔ m = .loss
    rcases before with h | h | h <;> rcases after with rfl | rfl | rfl <;> simp [h]
  · rcases before with e | e | e <;> simp [e] at counts <;> exact absurd counts h

/-- A pass counts towards recovery, or is the third in a row (R158). -/
theorem keeps_recover (lost : s.ctl.mode = .loss ∨ s.ctl.mode = .failsafe) :
    Keeps s (if s.ctl.recovery + 1 < 3 then { s with ctl := { s.ctl with recovery := s.ctl.recovery + 1 } }
      else { s with ctl := { s.ctl with recovery := 0, lossHold := none } }.setMode .normal) := by
  split_ifs with few
  · exact keeps_ctl s Iff.rfl rfl id fun ⟨timer, _, sigma, _⟩ => ⟨timer, Nat.le_of_lt_succ few, sigma, fun _ => lost⟩
  · refine keeps_ctl s ?_ rfl (fun _ => rfl) fun ⟨_, _, sigma, _⟩ => ⟨by simp, by simp, sigma, by simp⟩
    rcases lost with e | e <;> simp [e]

theorem keeps_reportPass (s : State) : Keeps s s.reportPass := by
  unfold State.reportPass
  split
  · exact .refl s
  next mode => exact keeps_setMode (.inl mode) (by decide)
  · exact .refl s
  next mode => exact keeps_setMode (.inr (.inr mode)) (by decide)
  next mode => exact keeps_recover (.inl mode)
  next mode => exact keeps_recover (.inr mode)

theorem keeps_clearRecovery (s : State) : Keeps s s.clearRecovery :=
  keeps_ctl s Iff.rfl rfl id fun ⟨timer, _, sigma, _⟩ => ⟨timer, by simp, sigma, by simp⟩

theorem keeps_lossHoldExpires (running : s.ctl.mode = .loss) : Keeps s s.lossHoldExpires :=
  keeps_ctl s (by simp [running]) rfl (fun _ => rfl) fun ⟨_, recovery, _, _⟩ => ⟨by simp, recovery, by simp, by simp⟩

/-! ## The set-points (R122, R153, R154) -/

/-- The last set-points change outside SETUP: every pressure is a multiple of 5 within Pmax. -/
theorem keeps_last (s : State) {p : SetPoints} (running : s.ctl.mode ≠ .setup)
    (set : SettingsLaw s → ∀ j : AxleId, s.app.last.pressure[j] % 5 = 0 ∧ s.app.last.pressure[j] ≤ s.settings.pmax[j].toNat →
      p.pressure[j] % 5 = 0 ∧ p.pressure[j] ≤ s.settings.pmax[j].toNat) :
    Keeps s { s with app := { s.app with last := p } } :=
  { pressure := fun ⟨ranges, _, h⟩ => ⟨ranges, fun e => absurd e running, fun j => set ranges j (h j)⟩ }

theorem keeps_reissue (running : s.ctl.mode ≠ .setup) : Keeps s s.reissue := by
  refine (keeps_last s running fun _ j h => ?_).trans (keeps_handSetPoints _)
  have : (s.app.last.reissued s.health.values).pressure[j]
      = if s.health.values.modulator[j] = .fault then 0 else s.app.last.pressure[j] := by
    simp [SetPoints.reissued]
  rw [this]
  split_ifs
  · exact ⟨rfl, Nat.zero_le _⟩
  · exact h

theorem SettingsLaw.pmax (h : SettingsLaw s) (j : AxleId) : s.settings.pmax[j].toNat % 5 = 0 := by
  have range := (settingsLaw_iff s).1 h (.pmax j)
  simp only [SettingIndex.inRange, Settings.get, Bool.and_eq_true, beq_iff_eq] at range
  exact range.2

theorem min_five {x m : Nat} (h : m % 5 = 0) : min (upToFive x) m % 5 = 0 := by
  unfold upToFive
  omega

theorem pressureOf_set (ranges : SettingsLaw s) (j : AxleId) (f share : Nat) :
    pressureOf s.settings j f share % 5 = 0 ∧ pressureOf s.settings j f share ≤ s.settings.pmax[j].toNat := by
  unfold pressureOf
  split_ifs
  · exact ⟨rfl, Nat.zero_le _⟩
  · exact ⟨min_five (ranges.pmax j), min_le_right _ _⟩

theorem fallbackPressure_set (ranges : SettingsLaw s) (j : AxleId) (share : Nat) :
    fallbackPressure s.settings j share % 5 = 0 ∧ fallbackPressure s.settings j share ≤ s.settings.pmax[j].toNat := by
  unfold fallbackPressure
  split_ifs
  · exact ⟨rfl, Nat.zero_le _⟩
  · exact ⟨min_five (ranges.pmax j), min_le_right _ _⟩

theorem fallbackRetarder_sigma (t : Settings) (h : Health) (force sigma : Nat) : (fallbackRetarder t h force sigma).2 ≤ 999 := by
  unfold fallbackRetarder
  split_ifs
  · simp
  · dsimp only
    split_ifs
    · simp
    · omega

theorem keeps_fallback (running : s.ctl.mode ≠ .setup) : Keeps s s.fallback := by
  unfold State.fallback
  dsimp only
  generalize fgovOf (governing s.demand.slots s.demand.age) = fgov
  refine (((keeps_last s (p := (s.fallbackSetPoints fgov).1) running fun ranges j _ => ?_).trans
    (keeps_ctl _ (c := { s.ctl with sigma := (s.fallbackSetPoints fgov).2 }) Iff.rfl rfl id
      fun ⟨timer, recovery, _, counts⟩ => ⟨timer, recovery, fallbackRetarder_sigma _ _ _ _, counts⟩)).trans
    (keeps_handSetPoints _)).trans (keeps_placeSummary _ _ _)
  have : (s.fallbackSetPoints fgov).1.pressure[j]
      = fallbackPressure s.settings j (fallbackShare s.settings s.health.values fgov j) := by
    simp [State.fallbackSetPoints]
  rw [this]
  exact fallbackPressure_set ranges j _

theorem keeps_enterLoss (mode : s.ctl.mode = .hold) (hold : Nat) :
    Keeps s { s with ctl := { s.ctl with mode := .loss, recovery := 0, lossHold := some hold, fallback := false } } :=
  keeps_ctl s (by simp [mode]) rfl (fun _ => rfl) fun ⟨_, _, sigma, _⟩ => ⟨by simp, by simp, sigma, by simp⟩

theorem keeps_missedPeriod (s : State) : Keeps s s.missedPeriod := by
  unfold State.missedPeriod
  split
  · exact .refl s
  · exact .refl s
  next mode => exact keeps_setMode (.inr (.inl mode)) (by decide)
  next mode => exact (keeps_enterLoss mode s.settings.lossHold.toNat).trans (keeps_reissue nofun)
  next mode => exact (keeps_clearRecovery s).trans (keeps_reissue fun e => nomatch mode.symm.trans e)
  next mode => exact (keeps_clearRecovery s).trans (keeps_fallback fun e => nomatch mode.symm.trans e)

end Sys2Proof.Machine
end

section
/-! PROOF. Samples, the end of a pass and the countdowns keep every law (R71 to R82, R109, R123 to R142). -/

namespace Sys2Proof.Machine
open Sys2Proof.Claims

variable {s t : State} {i j : SlotId} {n : Node}

/-! ## The ramp and the cap (R110 to R113) -/

theorem ratedStep_rho_lt (dir : RampDir) (rate dt t fcmd rho : Nat) : (ratedStep dir rate dt t fcmd rho).rho < 1000 := by
  unfold ratedStep
  dsimp only
  split_ifs <;> omega

theorem ratedStep_fcmd_le (dir : RampDir) (rate dt t fcmd rho : Nat) :
    (ratedStep dir rate dt t fcmd rho).fcmd ≤ max t fcmd := by
  unfold ratedStep
  cases dir <;> dsimp only <;> omega

theorem ramp_le (prev : RampDir) (onset : Option Nat) (release dt t fcmd : Nat) {rho : Nat} (h : rho ≤ 999) :
    (ramp prev onset release dt t fcmd rho).fcmd ≤ max t fcmd ∧ (ramp prev onset release dt t fcmd rho).rho ≤ 999 := by
  have kept : (if rampDirection t fcmd = prev then rho else 0) ≤ 999 := by
    split_ifs
    · exact h
    · exact Nat.zero_le _
  unfold ramp
  dsimp only
  generalize (if rampDirection t fcmd = prev then rho else 0) = carried at kept ⊢
  split
  · exact ⟨le_max_right _ _, Nat.zero_le _⟩
  · exact ⟨ratedStep_fcmd_le _ _ _ _ _ _, Nat.le_of_lt_succ (ratedStep_rho_lt _ _ _ _ _ _)⟩
  · split
    · exact ⟨le_max_right _ _, kept⟩
    · exact ⟨le_max_left _ _, Nat.zero_le _⟩
    · exact ⟨ratedStep_fcmd_le _ _ _ _ _ _, Nat.le_of_lt_succ (ratedStep_rho_lt _ _ _ _ _ _)⟩

theorem Ramp.capped_le (x : Ramp) (cap : Option Nat) :
    (x.capped cap).fcmd ≤ x.fcmd ∧ (x.capped cap).rho ≤ x.rho ∧ ∀ c ∈ cap, (x.capped cap).fcmd ≤ c := by
  unfold Ramp.capped
  rcases cap with _ | c
  · exact ⟨le_rfl, le_rfl, nofun⟩
  · dsimp only
    split_ifs with below
    · exact ⟨below.le, Nat.zero_le _, fun _ h => (Option.some.inj h).le⟩
    · exact ⟨le_rfl, le_rfl, fun _ h => (Nat.not_lt.1 below).trans (Option.some.inj h).le⟩

theorem Pass.total_le (p : Pass) (t : Settings) {x : Apportioner} (fcmd : x.fcmd ≤ 2500) (rho : x.rho ≤ 999) :
    (p.total t x).fcmd ≤ 2500 ∧ (p.total t x).rho ≤ 999 := by
  have ramped := ramp_le x.dir p.arb.onset t.releaseRate.toNat p.sample.dt (target p.arb.fgov) x.fcmd rho
  have capped := (ramp x.dir p.arb.onset t.releaseRate.toNat p.sample.dt (target p.arb.fgov) x.fcmd x.rho).capped_le p.arb.cap
  have : target p.arb.fgov ≤ 2500 := min_le_right _ _
  unfold Pass.total
  omega

/-! ## Samples (R72 to R81) -/

/-- The intake changes outside SETUP, or while its timer runs, which it does not in SETUP. -/
theorem keeps_intake (s : State) {k : Intake} (running : s.ctl.mode ≠ .setup ∨ s.intake.timer.isSome = true)
    (held : k.held = s.intake.held ∨ s.pass.isSome = true ∧ ∀ x ∈ k.held, 1 ≤ x.dt ∧ x.dt ≤ 50)
    (lastV : (∀ v ∈ s.intake.lastV, v ≤ 1500) → ∀ v ∈ k.lastV, v ≤ 1500) : Keeps s { s with intake := k } := by
  refine { intake := fun ⟨inFlight, heldDt, passDt, v, waits⟩ => ?_ }
  have noSetup : s.ctl.mode ≠ .setup := running.elim id fun timer e => by
    rw [(waits e).2.2.2.1] at timer
    cases timer
  refine ⟨?_, ?_, passDt, lastV v, fun e => absurd e noSetup⟩
  · rcases held with same | ⟨flies, -⟩
    · show k.held.isSome = true → _
      rwa [same]
    · exact fun _ => flies
  · rcases held with same | ⟨-, dt⟩
    · show ∀ x ∈ k.held, _
      rwa [same]
    · exact dt

theorem keeps_takeFrameA (s : State) (a : FrameA) : Keeps s (s.takeFrameA a) := by
  unfold State.takeFrameA
  split_ifs with setup
  · exact .refl s
  · exact keeps_intake s (.inl setup) (.inl rfl) id

theorem deltaT_range {lastUsed : Option Half} {ts : Half} {dt : Nat} (h : deltaT lastUsed ts = some dt) : 1 ≤ dt ∧ dt ≤ 50 := by
  unfold deltaT at h
  split at h
  · cases h
    decide
  next u =>
    split_ifs at h with same
    cases h
    have : (ts - u).toNat ≠ 0 := fun e =>
      same (by simpa [BitVec.sub_eq_iff_eq_add] using BitVec.eq_of_toNat_eq (x := ts - u) (y := 0) e)
    omega

theorem State.completeSample_range {a : FrameA} {b : FrameB} {x : Sample} (h : s.completeSample a b = some x) :
    (1 ≤ x.dt ∧ x.dt ≤ 50) ∧ x.v ≤ 1500 := by
  unfold State.completeSample at h
  split at h
  · cases h
  next dt e =>
    split_ifs at h with valid
    cases h
    exact ⟨deltaT_range e, valid⟩

/-- A pass is in flight from here, outside SETUP or after another pass, which is not in SETUP either. -/
theorem keeps_pass (s : State) {k : Intake} {p : Pass} (running : s.ctl.mode ≠ .setup ∨ s.pass.isSome = true)
    (held : k.held = s.intake.held ∨ k.held = none) (lastV : k.lastV = s.intake.lastV)
    (dt : IntakeLaw s → 1 ≤ p.sample.dt ∧ p.sample.dt ≤ 50) : Keeps s { s with intake := k, pass := some p } := by
  have noSetup (atRest : s.ctl.mode = .setup → s.pass = none) : s.ctl.mode ≠ .setup := running.elim id fun flies e => by
    rw [atRest e] at flies
    cases flies
  refine { pressure := fun ⟨ranges, atRest, set⟩ => ?_, intake := fun h => ?_, duty := fun ⟨count, warn, atRest⟩ => ?_ }
  · exact ⟨ranges, fun e => absurd e (noSetup fun e => (atRest e).1), set⟩
  · obtain ⟨-, heldDt, -, v, waits⟩ := id h
    refine ⟨fun _ => rfl, ?_, ?_, ?_, fun e => absurd e (noSetup fun e => (waits e).2.2.2.2)⟩
    · show ∀ x ∈ k.held, _
      rcases held with same | none
      · rwa [same]
      · simp [none]
    · intro q hq
      cases hq
      exact dt h
    · show ∀ v ∈ k.lastV, _
      rwa [lastV]
  · exact ⟨count, warn, fun e => absurd e (noSetup fun e => (atRest e).2)⟩

/-- Marks are set and removed. -/
theorem keeps_mapSlots_mark (s : State) (f : Slot → Bool) : Keeps s (s.mapSlots fun y => { y with mark := f y }) := by
  refine keeps_slots _ (fun j => ?_) fun j => ?_
  · show Restated (s.slot j) ((s.mapSlots fun y => { y with mark := f y }).slot j)
    rw [State.mapSlots_slot]
    exact .refl (s.slot j)
  · show ((s.mapSlots fun y => { y with mark := f y }).slot j).record.map _ = _
    rw [State.mapSlots_slot]
    rfl

theorem keeps_startPass {x : Sample} (running : s.ctl.mode ≠ .setup) (dt : 1 ≤ x.dt ∧ x.dt ≤ 50) :
    Keeps s (s.startPass x) := by
  have started : Keeps s { s with intake := { s.intake with lastUsed := some x.ts }, pass := some (s.newPass x) } :=
    keeps_pass s (.inl running) (.inl rfl) rfl fun _ => dt
  exact (started.trans (keeps_mapSlots_mark _ fun y => y.record.isSome)).trans (keeps_reportPass _)

theorem keeps_takeSample {x : Sample} (running : s.ctl.mode ≠ .setup) (dt : 1 ≤ x.dt ∧ x.dt ≤ 50) (v : x.v ≤ 1500) :
    Keeps s (s.takeSample x) := by
  have stored : Keeps s { s with intake := { s.intake with
      timer := some s.settings.sampleTimeout.toNat, lastV := some x.v, lastAmbient := x.ambient } } :=
    keeps_intake s (.inl running) (.inl rfl) fun _ _ e => (Option.some.inj e) ▸ v
  unfold State.takeSample
  dsimp only
  split
  · exact stored.trans (keeps_startPass running dt)
  next p flies =>
    refine stored.trans (keeps_intake _ (.inl running) (.inr ⟨?_, fun y e => (Option.some.inj e) ▸ dt⟩) id)
    show s.pass.isSome = true
    rw [flies]
    rfl

theorem keeps_takeFrameB (s : State) (b : FrameB) : Keeps s (s.takeFrameB b) := by
  unfold State.takeFrameB
  split_ifs with setup
  · exact .refl s
  · split
    · exact .refl s
    next a _ =>
      split_ifs
      · have consumed : Keeps s { s with intake := { s.intake with pendingA := none } } :=
          keeps_intake s (.inl setup) (.inl rfl) id
        dsimp only
        split
        · exact consumed
        next x complete =>
          obtain ⟨dt, v⟩ := State.completeSample_range complete
          exact consumed.trans (keeps_takeSample setup dt v)
      · exact .refl s

theorem keeps_takeChassisFrame (s : State) (f : CanFrame) : Keeps s (s.takeChassisFrame f) := by
  unfold State.takeChassisFrame
  split
  · exact keeps_takeFrameA _ _
  · exact keeps_takeFrameB _ _
  · exact keeps_takeHealth _ _ _
  · exact .refl s

theorem keeps_sampleTimerExpires (running : s.intake.timer.isSome = true) : Keeps s s.sampleTimerExpires := by
  have restarted : Keeps s { s with intake := { s.intake with timer := some s.settings.sampleTimeout.toNat } } :=
    keeps_intake s (.inr running) (.inl rfl) id
  exact restarted.trans (keeps_missedPeriod _)

/-! ## The thermal accounts (R132 to R134) -/

theorem Account.update_range (a : Account) {dh dc : Nat} (hdh : 0 < dh) (hdc : 0 < dc) (share v dt : Nat) (ambient : Int) :
    (-640 ≤ (a.update dh dc share v dt ambient).t16 ∧ (a.update dh dc share v dt ambient).t16 ≤ 14400)
    ∧ (a.update dh dc share v dt ambient).heatRes < dh
    ∧ -(dc : Int) < (a.update dh dc share v dt ambient).coolRes ∧ (a.update dh dc share v dt ambient).coolRes < dc := by
  have positive : (0 : Int) < dc := by exact_mod_cast hdc
  unfold Account.update
  dsimp only
  refine ⟨by omega, Nat.mod_lt _ hdh, ?_, Int.tmod_lt_of_pos _ positive⟩
  exact Int.lt_tmod_of_pos _ positive

theorem SettingsLaw.divisors (h : SettingsLaw s) (j : AxleId) : 0 < heatDivisor s.settings j ∧ 0 < coolDivisor s.settings j := by
  obtain ⟨cth, -⟩ := between_iff.1 ((settingsLaw_iff s).1 h (.cth j))
  obtain ⟨tau, -⟩ := between_iff.1 ((settingsLaw_iff s).1 h (.tau j))
  simp only [Settings.get] at cth tau
  unfold heatDivisor coolDivisor
  omega

theorem keeps_updateThermal (s : State) (shares : Vector Nat 3) (v dt : Nat) (ambient : Int) :
    Keeps s (s.updateThermal shares v dt ambient) := by
  unfold State.updateThermal
  refine { account := fun ⟨ranges, valid, set⟩ => ⟨ranges, valid, fun j a ha => ?_⟩ }
  simp only [Fin.getElem_fin, Vector.getElem_ofFn] at ha
  split_ifs at ha
  · obtain ⟨b, -, rfl⟩ := Option.map_eq_some_iff.1 ha
    obtain ⟨heat, cool⟩ := SettingsLaw.divisors ranges j
    obtain ⟨⟨low, high⟩, residues⟩ := b.update_range heat cool shares[j] v dt ambient
    exact ⟨low, high, fun _ => residues⟩
  · exact set j a ha

/-! ## The duty timer (R141, R142) -/

theorem DutyTimer.update_range {d : DutyTimer} (h : d.count ≤ 6553500) (cond : Bool) (dt threshold : Nat) :
    (d.update cond dt threshold).count ≤ 6553500
      ∧ ((d.update cond dt threshold).warn = true →
        (d.update cond dt threshold).running = true ∧ 100 * threshold ≤ (d.update cond dt threshold).count) := by
  constructor
  · unfold DutyTimer.update DutyTimer.advance
    dsimp only
    split
    · exact Nat.zero_le _
    · exact min_le_right _ _
    · exact h
    · exact h
  · unfold DutyTimer.update dutyWarn
    simp

theorem keeps_duty (cond : Bool) (dt : Nat) (flies : s.pass.isSome = true) :
    Keeps s { s with duty := s.duty.update cond dt s.settings.dutyThreshold.toNat } := by
  refine { duty := fun ⟨count, _, atRest⟩ => ?_ }
  obtain ⟨bound, warn⟩ := DutyTimer.update_range count cond dt s.settings.dutyThreshold.toNat
  refine ⟨bound, warn, fun e => ?_⟩
  rw [(atRest e).2] at flies
  cases flies

/-! ## The end of a pass (R109, R123 to R126) -/

theorem keeps_written {p : Pass} (flies : s.pass = some p) :
    Keeps s { s with app := s.app.written (p.figures s.settings s.app) } := by
  refine { total := fun ⟨fcmd, rho⟩ => p.total_le s.settings fcmd rho, pressure := fun ⟨ranges, atRest, _⟩ => ?_ }
  refine ⟨ranges, fun e => ?_, fun j => ?_⟩
  · rw [(atRest e).1] at flies
    cases flies
  · have : (s.app.written (p.figures s.settings s.app)).last.pressure[j]
        = pressureOf s.settings j p.cap.fade[j] (p.figures s.settings s.app).shares[j] := by
      simp [Apportioner.written, Pass.figures]
    rw [this]
    exact pressureOf_set ranges j _ _

theorem keeps_settleSigma (s : State) (p : Pass) : Keeps s (s.settleSigma p) := by
  unfold State.settleSigma
  split_ifs
  · exact keeps_ctl s Iff.rfl rfl id fun ⟨timer, recovery, _, counts⟩ => ⟨timer, recovery, by simp, counts⟩
  · exact .refl s

theorem keeps_issuePass {p : Pass} (flies : s.pass = some p) : Keeps s (s.issuePass p (p.figures s.settings s.app)) :=
  (((keeps_written flies).trans (keeps_settleSigma _ p)).trans (keeps_handSetPoints _)).trans (keeps_placeSummary _ _ _)

theorem keeps_updateCover (s : State) (p : Pass) (d : Nat) : Keeps s (s.updateCover p d) := by
  have slot (j : SlotId) : (s.updateCover p d).slot j = (s.slot j).takeCover p.slots[j].record d := by
    simp [State.slot, State.updateCover]
  refine keeps_slots _ (fun j => ?_) fun j => ?_
  · show Restated (s.slot j) ((s.updateCover p d).slot j)
    rw [slot]
    unfold Slot.takeCover
    split
    · split_ifs
      · rcases h : (s.slot j).record with _ | r
        · exact ⟨rfl, rfl, .active, .unserved, by simp [h], nofun⟩
        next q _ _ => exact ⟨rfl, rfl, r.state, coverOf q d, by simp [h], fun e q hq => Option.some.inj (h ▸ hq) ▸ e⟩
      · exact .refl (s.slot j)
    · exact .refl (s.slot j)
  · show ((s.updateCover p d).slot j).record.map _ = (s.slot j).record.map _
    rw [slot]
    unfold Slot.takeCover
    split
    · dsimp only
      split_ifs
      · rw [Option.map_map]
        rfl
      · rfl
    · rfl

theorem keeps_takeUpdates (s : State) (p : Pass) (f : Figures) (flies : s.pass.isSome = true) : Keeps s (s.takeUpdates p f) := by
  refine ((keeps_updateCover s p f.delivered).trans (keeps_updateThermal _ _ _ _ _)).trans (keeps_duty _ _ ?_)
  rwa [State.updateThermal_pass, State.updateCover_pass]

theorem State.issuePass_pass (s : State) (p : Pass) (f : Figures) : (s.issuePass p f).pass = s.pass := by
  have settled : ({ s with app := s.app.written f }.settleSigma p).pass = s.pass := by
    unfold State.settleSigma
    split_ifs <;> rfl
  unfold State.issuePass State.handSummary
  dsimp only
  rw [State.placeSummary_frame]
  dsimp only
  rw [State.handSetPoints_frame]
  exact settled

/-- The pass is over; a held sample starts the next one (R80). -/
theorem keeps_passOver (flies : s.pass.isSome = true) : Keeps s { s with pass := none }.startHeld := by
  unfold State.startHeld
  split
  next idle =>
    have held : s.intake.held = none := idle
    exact {
      pressure := fun ⟨ranges, atRest, set⟩ => ⟨ranges, fun e => ⟨rfl, (atRest e).2⟩, set⟩
      intake := fun ⟨_, heldDt, _, v, waits⟩ => ⟨fun h => by simp [held] at h, heldDt, by simp, v, fun e =>
        ⟨(waits e).1, (waits e).2.1, (waits e).2.2.1, (waits e).2.2.2.1, rfl⟩⟩
      duty := fun ⟨count, warn, atRest⟩ => ⟨count, warn, fun e => ⟨(atRest e).1, rfl⟩⟩ }
  next x held =>
    have started : Keeps s { s with
        intake := { s.intake with held := none, lastUsed := some x.ts }
        pass := some (State.newPass { s with pass := none, intake := { s.intake with held := none } } x) } :=
      keeps_pass s (.inr flies) (.inr rfl) rfl fun ⟨_, heldDt, _⟩ => heldDt x held
    exact (started.trans (keeps_mapSlots_mark _ fun y => y.record.isSome)).trans (keeps_reportPass _)

theorem keeps_endPass (s : State) : Keeps s s.endPass := by
  unfold State.endPass
  split
  · exact .refl s
  next p flies =>
    have inFlight : (s.issuePass p (p.figures s.settings s.app)).pass.isSome = true := by
      rw [State.issuePass_pass, flies]
      rfl
    refine ((keeps_issuePass flies).trans (keeps_takeUpdates _ p _ inFlight)).trans (keeps_passOver ?_)
    rwa [State.takeUpdates_pass]

/-! ## One millisecond -/

theorem keeps_tickSlot (s : State) (i : SlotId) : Keeps s (s.tickSlot i) := by
  unfold State.tickSlot
  split
  · exact .refl s
  next n running =>
    split
    · refine keeps_slots _ (fun j => ?_) fun j => ?_
      · show Restated (s.slot j) ((s.putSlot i _).slot j)
        rw [State.putSlot_slot]
        split_ifs with own
        · subst own
          obtain ⟨-, -, record⟩ := Restated.refl (s.slot i)
          exact ⟨rfl, by rw [running]; rfl, record⟩
        · exact .refl _
      · show ((s.putSlot i _).record j).map _ = _
        rw [State.putSlot_record]
        split_ifs with own
        · subst own
          rfl
        · rfl
    · split_ifs
      · exact keeps_leaseExpires s i
      · exact keeps_graceExpires s i

theorem keeps_tickLatch (s : State) (n : Node) : Keeps s (s.tickLatch n) := by
  unfold State.tickLatch
  split
  · exact .refl s
  next k running =>
    split
    · refine keeps_setLatch s n fun ⟨room, kinds, timer⟩ => ⟨room, kinds, ?_⟩
      rw [running] at timer
      exact timer
    · exact keeps_emptyLatch s n

theorem keeps_holdExpires (s : State) (n : Node) : Keeps s (s.holdExpires n) := by
  unfold State.holdExpires
  split_ifs
  · exact keeps_emptyLatch s n
  · exact .refl s

theorem keeps_tickStatus (s : State) (x : HealthSource) : Keeps s (s.tickStatus x) := by
  unfold State.tickStatus
  split
  · exact .refl s
  next k running =>
    split
    · exact keeps_put s x nofun fun _ => .inr (by rw [running]; rfl)
    · exact keeps_statusExpires s x

theorem keeps_tickSample (s : State) : Keeps s s.tickSample := by
  unfold State.tickSample
  split
  · exact .refl s
  next k running =>
    have timer : s.intake.timer.isSome = true := by
      rw [running]
      rfl
    split
    · exact keeps_intake s (.inr timer) (.inl rfl) id
    · exact keeps_sampleTimerExpires timer

theorem keeps_tickLossHold (s : State) : Keeps s s.tickLossHold := by
  unfold State.tickLossHold
  split
  · exact .refl s
  next k running =>
    split
    · refine keeps_ctl s Iff.rfl rfl id fun ⟨timer, recovery, sigma, counts⟩ => ⟨?_, recovery, sigma, counts⟩
      rw [running] at timer
      exact timer
    · split_ifs with mode
      · exact keeps_lossHoldExpires mode
      · exact .refl s

theorem keeps_foldl {α : Type} (f : State → α → State) (keeps : ∀ s x, Keeps s (f s x)) (l : List α) (s : State) :
    Keeps s (l.foldl f s) := by
  induction l generalizing s with
  | nil => exact .refl s
  | cons x l ih => exact (keeps s x).trans (ih (f s x))

theorem keeps_tick (s : State) : Keeps s s.tick := by
  unfold State.tick
  split_ifs
  · exact .refl s
  · exact ((((keeps_foldl _ keeps_tickSlot _ s).trans (keeps_foldl _ keeps_tickLatch _ _)).trans
      (keeps_foldl _ keeps_tickStatus _ _)).trans (keeps_tickLossHold _)).trans (keeps_tickSample _)

end Sys2Proof.Machine
end

section
/-! PROOF. The setting port keeps every law, and a part that a reset leaves blank has them. -/

namespace Sys2Proof.Machine
open Sys2Proof.Claims

variable {s t : State} {i j : SlotId} {n : Node}

/-! ## A setting stored (R163) -/

/-- A setting stored is the setting read back. -/
theorem Settings.get_set_same (t : Settings) (i : SettingIndex) (x : Half) : (t.set i x).get i = x := by
  cases i <;> simp [Settings.set, Settings.get]

/-- A setting stored leaves every other: another field, another place of its table, or another column of its row. -/
theorem Settings.get_set_ne (t : Settings) {i j : SettingIndex} (x : Half) (ne : j ≠ i) : (t.set i x).get j = t.get j := by
  cases i <;> cases j
  -- two fields; one field that has no places; two places of one table
  any_goals rfl
  any_goals exact absurd rfl ne
  all_goals
    simp only [Settings.set, Settings.get, getElem_set_fin]
    split_ifs with own
    · simp_all
    · rfl

theorem SettingsLaw.set (h : SettingsLaw s) {i : SettingIndex} {x : Half} (range : i.inRange x = true) :
    SettingsLaw { s with settings := s.settings.set i x } := by
  rw [settingsLaw_iff] at h ⊢
  intro j
  dsimp only
  rcases eq_or_ne j i with rfl | ne
  · rwa [Settings.get_set_same]
  · rw [Settings.get_set_ne _ _ ne]
    exact h j

theorem keeps_setSetting {i : SettingIndex} {x : Half} (setup : s.ctl.mode = .setup) (range : i.inRange x = true) :
    Keeps s { s with settings := s.settings.set i x } where
  settings h := h.set range
  record := fun ⟨ranges, empty, _⟩ => by
    refine ⟨SettingsLaw.set ranges range, empty, fun j r hr => ?_⟩
    have free : s.record j = none := empty setup j
    exact absurd (free ▸ hr : r ∈ none) (by simp)
  account := fun ⟨ranges, valid, set⟩ =>
    ⟨SettingsLaw.set ranges range, valid, fun j a ha => ⟨(set j a ha).1, (set j a ha).2.1, fun e => absurd setup e⟩⟩
  pressure := fun ⟨ranges, atRest, _⟩ => by
    refine ⟨SettingsLaw.set ranges range, atRest, fun j => ?_⟩
    have zero : s.app.last = .zero := (atRest setup).2
    show s.app.last.pressure[j] % 5 = 0 ∧ s.app.last.pressure[j] ≤ _
    rw [zero]
    simp [SetPoints.zero]
  duty := fun ⟨count, _, atRest⟩ => by
    have stopped : s.duty = .stopped := (atRest setup).1
    refine ⟨count, fun warn => ?_, atRest⟩
    rw [show ({ s with settings := s.settings.set i x } : State).duty = .stopped from stopped] at warn
    cases warn

/-! ## The port (R159 to R169) -/

theorem keeps_port (s : State) (p : SettingPort) : Keeps s { s with port := p } := {}

theorem keeps_respondFree (s : State) (st : PortStatus) : Keeps s (s.respondFree st) := {}

theorem keeps_portSelect (s : State) (index : Half) : Keeps s (s.portSelect index) := by
  unfold State.portSelect
  split <;> exact keeps_port s _

theorem keeps_portRead (s : State) : Keeps s s.portRead := by
  unfold State.portRead
  split <;> exact keeps_port s _

theorem keeps_portWrite (s : State) (value : Half) : Keeps s (s.portWrite value) := by
  unfold State.portWrite
  split
  · exact keeps_port s _
  · exact keeps_port s _
  next i _ =>
    split
    · exact keeps_port s _
    next setup =>
      split
      · exact keeps_port s _
      next range =>
        exact (keeps_setSetting (by simpa using setup) (by simpa using range)).trans (keeps_port _ _)

theorem SettingsLaw.initialTemp (h : SettingsLaw s) :
    -40 ≤ s.settings.initialTemp.toInt ∧ s.settings.initialTemp.toInt ≤ 600 :=
  signedBetween_iff.1 ((settingsLaw_iff s).1 h .initialTemp)

/-- The set-points at rest are within any limit. -/
theorem pressure_zero (t : Settings) (j : AxleId) :
    SetPoints.zero.pressure[j] % 5 = 0 ∧ SetPoints.zero.pressure[j] ≤ t.pmax[j].toNat := by
  simp [SetPoints.zero]

theorem keeps_runAccepted (setup : s.ctl.mode = .setup) : Keeps s s.runAccepted where
  fallback _ := rfl
  valid _ := ⟨nofun, fun _ => rfl⟩
  mode _ := ⟨by simp [State.runAccepted, State.setMode], Nat.zero_le _, Nat.zero_le _, fun h => absurd rfl h⟩
  record := fun ⟨ranges, empty, _⟩ => by
    refine ⟨ranges, nofun, fun j r hr => ?_⟩
    have free : s.record j = none := empty setup j
    exact absurd (free ▸ hr : r ∈ none) (by simp)
  total _ := ⟨Nat.zero_le _, Nat.zero_le _⟩
  pressure := fun ⟨ranges, _, _⟩ => ⟨ranges, nofun, fun j => pressure_zero s.settings j⟩
  account := fun ⟨ranges, _, _⟩ => by
    refine ⟨ranges, ⟨nofun, fun _ => rfl⟩, fun j a ha => ?_⟩
    obtain ⟨low, high⟩ := SettingsLaw.initialTemp ranges
    obtain ⟨heat, cool⟩ := SettingsLaw.divisors ranges j
    have initial : a ∈ (initialAccounts s.settings)[j] := ha
    simp only [initialAccounts, Fin.getElem_fin, Vector.getElem_ofFn] at initial
    split_ifs at initial
    · cases initial
      refine ⟨?_, ?_, fun _ => ⟨heat, ?_, ?_⟩⟩
      · show -640 ≤ 16 * s.settings.initialTemp.toInt
        omega
      · show 16 * s.settings.initialTemp.toInt ≤ 14400
        omega
      · show -(coolDivisor s.settings j : Int) < 0
        omega
      · show (0 : Int) < coolDivisor s.settings j
        omega
    · cases initial
  health _ := ⟨fun x _ _ => congrArg HealthEntry.value (HealthMonitor.silent_entry x), nofun⟩
  intake := fun ⟨_, _, passDt, _, _⟩ => ⟨nofun, by simp [State.runAccepted, State.setMode], passDt,
    by simp [State.runAccepted, State.setMode], nofun⟩
  duty _ := ⟨Nat.zero_le _, nofun, nofun⟩

theorem keeps_portRun (s : State) : Keeps s s.portRun := by
  unfold State.portRun
  split
  · exact keeps_port s _
  next setup =>
    split
    · exact keeps_port s _
    · exact (keeps_runAccepted (by simpa using setup)).trans (keeps_port _ _)

theorem latchLaw_empty (h : s.latches = Vector.replicate 16 .empty) : LatchLaw s := by
  rw [latchLaw_iff, h]
  intro n
  simpa using Latch.sound_empty

theorem ChassisTx.sound_empty : ChassisTx.empty.Sound := by
  intro k
  simp [ChassisTx.empty]

theorem keeps_enterSetup (empty : ∀ i : SlotId, s.record i = none) : Keeps s s.enterSetup where
  fallback _ := rfl
  valid _ := ⟨nofun, fun e => absurd rfl e⟩
  mode _ := ⟨by simp [State.enterSetup, State.setMode], Nat.zero_le _, Nat.zero_le _, fun h => absurd rfl h⟩
  record := fun ⟨ranges, _, fits⟩ => ⟨ranges, fun _ => empty, fits⟩
  total _ := ⟨Nat.zero_le _, Nat.zero_le _⟩
  pressure := fun ⟨ranges, _, _⟩ => ⟨ranges, fun _ => ⟨rfl, rfl⟩, fun j => pressure_zero s.settings j⟩
  account := fun ⟨ranges, _, set⟩ => ⟨ranges, ⟨nofun, fun e => absurd rfl e⟩, fun j a ha =>
    ⟨(set j a ha).1, (set j a ha).2.1, fun e => absurd rfl e⟩⟩
  latch _ := latchLaw_empty rfl
  slot _ := ChassisTx.sound_empty
  health _ := ⟨fun x _ _ => congrArg HealthEntry.value (HealthMonitor.silent_entry x),
    fun _ x _ => HealthMonitor.silent_entry x⟩
  intake := fun ⟨_, _, _, v, _⟩ => ⟨fun e => absurd e Bool.false_ne_true,
    by simp [State.enterSetup, State.setMode], by simp [State.enterSetup, State.setMode], v, fun _ => ⟨rfl, rfl, rfl, rfl, rfl⟩⟩
  duty _ := ⟨Nat.zero_le _, nofun, fun _ => ⟨rfl, rfl⟩⟩

theorem State.slotsInUse_eq_zero_iff (s : State) : s.slotsInUse = 0 ↔ ∀ i : SlotId, s.record i = none := by
  simp [State.slotsInUse, List.filter_eq_nil_iff]

theorem keeps_portSetup (s : State) : Keeps s s.portSetup := by
  unfold State.portSetup
  split
  · exact keeps_port s _
  next unused =>
    split
    · exact keeps_port s _
    · split
      · exact keeps_port s _
      · exact (keeps_enterSetup (s.slotsInUse_eq_zero_iff.1 (by omega))).trans (keeps_port _ _)

theorem keeps_portCommand (s : State) (code : Half) : Keeps s (s.portCommand code) := by
  unfold State.portCommand
  split
  · exact keeps_portRun s
  · split
    · exact keeps_portSetup s
    · exact keeps_respondFree s _

theorem keeps_portOperation (s : State) (c : Instr) : Keeps s (s.portOperation c) := by
  cases c with
  | select index => exact keeps_portSelect s index
  | read _ => exact keeps_portRead s
  | write value => exact keeps_portWrite s value
  | run => exact keeps_portRun s
  | setup => exact keeps_portSetup s
  | unknownCommand code => exact keeps_portCommand s code
  | _ => exact .refl s

theorem keeps_clock (s : State) (bytes : List Byte) : Keeps s (s.clock bytes) := keeps_port s _

theorem keeps_takeTransfer (s : State) (bytes : List Byte) : Keeps s (s.takeTransfer bytes) := by
  unfold State.takeTransfer
  dsimp only
  split
  · exact (keeps_clock s bytes).trans (keeps_respondFree _ _)
  · exact (keeps_clock s bytes).trans (keeps_portOperation _ _)

/-! ## The resets (R146) -/

/-- The state's table, monitors, lists and buffers are those after a reset. -/
structure State.Blank (s : State) : Prop where
  demand   : s.demand = .afterReset
  monitors : s.monitors = Vector.replicate 16 .afterReset
  arbiter  : s.arbiter = .afterReset
  queue    : s.vehicleTx = []
  latches  : s.latches = Vector.replicate 16 .empty
  transmit : s.chassisTx = .empty
  health   : s.health = .silent
  app      : s.app = .afterReset
  duty     : s.duty = .stopped
  pass     : s.pass = none

namespace State.Blank

theorem record_none (h : s.Blank) (i : SlotId) : s.record i = none := by
  rw [State.record_eq, State.slot, h.demand]
  simp [Demand.afterReset, Slot.afterReset]

theorem tableLaw (h : s.Blank) : TableLaw s := by
  have countdown (i : SlotId) : (s.slot i).countdown = none := by
    rw [State.slot, h.demand]
    simp [Demand.afterReset, Slot.afterReset]
  refine ⟨by rw [h.demand]; exact List.nodup_nil, fun i => ?_, fun i j r hr => ?_, fun i => ?_⟩
  · rw [h.record_none, h.demand]
    simp [Demand.afterReset]
  · rw [h.record_none] at hr
    cases hr
  · rw [h.record_none, countdown]
    rfl

theorem arbiterLaw (h : s.Blank) : ArbiterLaw s := by
  rw [arbiterLaw_iff, h.arbiter]
  refine ⟨⟨List.nodup_nil, Nat.zero_le _, List.nodup_nil, fun e => absurd rfl e⟩, fun i => ?_, rfl⟩
  rw [h.record_none]
  exact stands_none.2 ⟨List.not_mem_nil, List.not_mem_nil⟩

theorem monitorLaw (h : s.Blank) : MonitorLaw s := by
  intro n valid
  rw [h.monitors] at valid
  simp [Monitor.afterReset] at valid

theorem recordLaw (h : s.Blank) (ranges : SettingsLaw s) : RecordLaw s :=
  ⟨ranges, fun _ => h.record_none, fun i r hr => absurd (h.record_none i ▸ hr : r ∈ none) (by simp)⟩

theorem totalLaw (h : s.Blank) : TotalLaw s := by
  rw [TotalLaw, h.app]
  exact ⟨Nat.zero_le _, Nat.zero_le _⟩

theorem pressureLaw (h : s.Blank) (ranges : SettingsLaw s) : PressureLaw s := by
  rw [PressureLaw, h.app, h.pass]
  exact ⟨ranges, fun _ => ⟨rfl, rfl⟩, fun j => pressure_zero s.settings j⟩

theorem healthLaw (h : s.Blank) : HealthLaw s := by
  rw [HealthLaw, h.health]
  exact ⟨fun x _ _ => congrArg HealthEntry.value (HealthMonitor.silent_entry x),
    fun _ x _ => HealthMonitor.silent_entry x⟩

theorem intakeLaw (h : s.Blank) (pendingA : s.intake.pendingA = none) (held : s.intake.held = none)
    (lastUsed : s.intake.lastUsed = none) (timer : s.intake.timer = none) (lastV : ∀ v ∈ s.intake.lastV, v ≤ 1500) :
    IntakeLaw s := by
  rw [IntakeLaw, h.pass, held]
  exact ⟨nofun, by simp, by simp, lastV, fun _ => ⟨pendingA, rfl, lastUsed, timer, rfl⟩⟩

theorem dutyLaw (h : s.Blank) : DutyLaw s := by
  rw [DutyLaw, h.duty, h.pass]
  exact ⟨Nat.zero_le _, nofun, fun _ => ⟨rfl, rfl⟩⟩

theorem queueLaw (h : s.Blank) : QueueLaw s := by
  rw [QueueLaw, h.queue]
  exact Nat.zero_le _

theorem slotLaw (h : s.Blank) : SlotLaw s := by
  rw [SlotLaw, h.transmit]
  exact ChassisTx.sound_empty

end State.Blank

theorem powerOnSettings_inRange (i : SettingIndex) : i.inRange (powerOnSettings.get i) = true := by
  have all : ∀ i ∈ SettingIndex.all, i.inRange (powerOnSettings.get i) = true := by decide +kernel
  exact all i i.mem_all

end Sys2Proof.Machine
end

section
/-! PROOF. The resets keep every law, and so does every step; the laws hold after reset. -/

namespace Sys2Proof.Machine
open Sys2Proof.Claims

variable {s t : State}

/-! ## The resets (R146) -/

theorem afterPowerOn_lawful : ModeControl.afterPowerOn.Lawful := ⟨by decide, by decide, by decide, by decide⟩

theorem settingsLaw_powerOn (h : s.settings = powerOnSettings) : SettingsLaw s := by
  rw [settingsLaw_iff, h]
  exact powerOnSettings_inRange

/-- A blank part in SETUP with its power-on settings, its accounts unset, is safe. -/
theorem safeState_of_powerOn (blank : s.Blank) (settings : s.settings = powerOnSettings)
    (accounts : s.accounts = Vector.replicate 3 none) (intake : s.intake = .afterPowerOn) (ctl : s.ctl = .afterPowerOn) :
    SafeState s := by
  have ranges := settingsLaw_powerOn settings
  have valid : ValidLaw s := by
    rw [ValidLaw, ctl]
    exact ⟨nofun, fun e => absurd rfl e⟩
  refine ⟨?_, valid, blank.queueLaw, latchLaw_empty blank.latches, blank.tableLaw, blank.arbiterLaw,
    blank.recordLaw ranges, blank.monitorLaw, ⟨ranges, valid, fun j a ha => ?_⟩, blank.totalLaw, blank.pressureLaw ranges,
    (modeLaw_iff s).2 (ctl ▸ afterPowerOn_lawful), blank.healthLaw, ?_, blank.slotLaw, blank.dutyLaw⟩
  · rw [FallbackLaw, ctl]
    rfl
  · rw [accounts] at ha
    simp at ha
  · refine blank.intakeLaw ?_ ?_ ?_ ?_ ?_ <;> rw [intake] <;> simp [Intake.afterPowerOn]

theorem Keeps.of_safe (safe : SafeState t) : Keeps s t := by
  obtain ⟨fallback, valid, queue, latch, table, arbiter, record, monitor, account, total, pressure, mode, health, intake,
    slot, duty⟩ := safe
  exact ⟨fun _ => fallback, fun _ => valid, fun _ => mode, fun _ => table, fun _ => monitor, fun _ => arbiter,
    fun _ => record.1, fun _ => record, fun _ => total, fun _ => pressure, fun _ => account, fun _ => queue, fun _ => latch,
    fun _ => slot, fun _ => health, fun _ => intake, fun _ => duty⟩

theorem State.reset_blank : State.reset.Blank := ⟨rfl, rfl, rfl, rfl, rfl, rfl, rfl, rfl, rfl, rfl⟩

/-- A reset that keeps the settings: a blank part in STARTUP or SETUP as settings-valid says. -/
theorem keeps_warmReset (s : State) (cause : ResetCause) :
    Keeps s ((s.resetBlocks cause).setMode (modeAfterReset s.ctl.settingsValid)) := by
  have blank : ((s.resetBlocks cause).setMode (modeAfterReset s.ctl.settingsValid)).Blank :=
    ⟨rfl, rfl, rfl, rfl, rfl, rfl, rfl, rfl, rfl, rfl⟩
  have valid : s.ctl.settingsValid = true ↔ modeAfterReset s.ctl.settingsValid ≠ .setup := by
    cases s.ctl.settingsValid <;> decide
  have quiet : modeAfterReset s.ctl.settingsValid ≠ .loss := by cases s.ctl.settingsValid <;> decide
  exact {
    fallback := fun _ => rfl
    valid := fun _ => valid
    mode := fun _ => ⟨iff_of_false Bool.false_ne_true quiet, Nat.zero_le _, Nat.zero_le _, fun e => absurd rfl e⟩
    table := fun _ => blank.tableLaw
    monitor := fun _ => blank.monitorLaw
    arbiter := fun _ => blank.arbiterLaw
    record := fun ⟨ranges, _⟩ => blank.recordLaw ranges
    total := fun _ => blank.totalLaw
    pressure := fun ⟨ranges, _⟩ => blank.pressureLaw ranges
    account := fun ⟨ranges, before, set⟩ => ⟨ranges, valid, fun j a ha => ⟨(set j a ha).1, (set j a ha).2.1, fun e =>
      (set j a ha).2.2 (before.1 (valid.2 e))⟩⟩
    queue := fun _ => blank.queueLaw
    latch := fun _ => latchLaw_empty blank.latches
    slot := fun _ => blank.slotLaw
    health := fun _ => blank.healthLaw
    intake := fun ⟨_, _, _, lastV, _⟩ => blank.intakeLaw rfl rfl rfl rfl lastV
    duty := fun _ => blank.dutyLaw }

/-! ## Every command and every step -/

/-- The change from s to the next state keeps every law. -/
def OutcomeKeeps (s : State) (o : Host.Outcome State Fault Refusal) : Prop := ∃ t, o = .next t ∧ Keeps s t

theorem outcomeKeeps_outsideReset (keeps : Keeps s t) : OutcomeKeeps s (.next (if s.inReset then s else t)) := by
  refine ⟨_, rfl, ?_⟩
  split_ifs
  · exact .refl s
  · exact keeps

theorem exec_keeps (c : Instr) (s : State) : OutcomeKeeps s (exec c s) := by
  cases c with
  | openRecord n hf data => exact outcomeKeeps_outsideReset (keeps_takeOpen s n hf data)
  | amendCompact n hf data => exact outcomeKeeps_outsideReset (keeps_takeAmend s n hf data)
  | amendFull n hf data => exact outcomeKeeps_outsideReset (keeps_takeAmend s n hf data)
  | amendIf n hf data => exact outcomeKeeps_outsideReset (keeps_takeAmendIf s n hf data)
  | renew n hf _ => exact outcomeKeeps_outsideReset (keeps_takeRenew s n hf)
  | release n hf _ => exact outcomeKeeps_outsideReset (keeps_takeRelease s n hf)
  | query n hf data => exact outcomeKeeps_outsideReset (keeps_takeQuery s n hf data)
  | reserve n hf data => exact outcomeKeeps_outsideReset (keeps_takeReserve s n hf data)
  | qualify n hf data => exact outcomeKeeps_outsideReset (keeps_takeQualify s n hf data)
  | vehicleFrameIgnored f => exact outcomeKeeps_outsideReset (keeps_takeVehicleFrame s f)
  | leaseExpiry i => exact outcomeKeeps_outsideReset (keeps_leaseExpires s i)
  | graceExpiry i => exact outcomeKeeps_outsideReset (keeps_graceExpires s i)
  | qualifierHoldExpiry n => exact outcomeKeeps_outsideReset (keeps_holdExpires s n)
  | sampleFrameA ts v n ratio => exact outcomeKeeps_outsideReset (keeps_takeFrameA s _)
  | sampleFrameB ts oil ambient l0 l1 l2 => exact outcomeKeeps_outsideReset (keeps_takeFrameB s _)
  | healthFrame actuator code => exact outcomeKeeps_outsideReset (keeps_takeHealth s actuator code)
  | chassisFrameIgnored f => exact outcomeKeeps_outsideReset (keeps_takeChassisFrame s f)
  | sampleTimerExpiry =>
    refine outcomeKeeps_outsideReset ?_
    beta_reduce
    split_ifs with running
    · exact keeps_sampleTimerExpires running
    · exact .refl s
  | statusTimerExpiry x =>
    refine outcomeKeeps_outsideReset ?_
    beta_reduce
    split_ifs
    · exact keeps_statusExpires s x
    · exact .refl s
  | lossHoldExpiry =>
    refine outcomeKeeps_outsideReset ?_
    beta_reduce
    split_ifs with running
    · exact keeps_lossHoldExpires (beq_iff_eq.1 (Bool.and_eq_true_iff.1 running).2)
    · exact .refl s
  | passEnd => exact outcomeKeeps_outsideReset (keeps_endPass s)
  | vehicleFrameSent =>
    refine outcomeKeeps_outsideReset ?_
    exact { queue := fun h => (by simp : s.vehicleTx.tail.length ≤ s.vehicleTx.length).trans h }
  | chassisFrameSent => exact outcomeKeeps_outsideReset (keeps_chassisSent s)
  | powerOn =>
    exact ⟨_, rfl, .of_safe (safeState_of_powerOn ⟨rfl, rfl, rfl, rfl, rfl, rfl, rfl, rfl, rfl, rfl⟩ rfl rfl rfl rfl)⟩
  | lineReset => exact ⟨_, rfl, keeps_warmReset s .line⟩
  | supplyDip => exact ⟨_, rfl, keeps_warmReset s .supplyDip⟩
  | resetEnd =>
    refine ⟨_, rfl, ?_⟩
    split_ifs
    · exact {}
    · exact .refl s
  | select index => exact outcomeKeeps_outsideReset ((keeps_clock s _).trans (keeps_portSelect _ index))
  | read data => exact outcomeKeeps_outsideReset ((keeps_clock s _).trans (keeps_portRead _))
  | write value => exact outcomeKeeps_outsideReset ((keeps_clock s _).trans (keeps_portWrite _ value))
  | run => exact outcomeKeeps_outsideReset ((keeps_clock s _).trans (keeps_portRun _))
  | setup => exact outcomeKeeps_outsideReset ((keeps_clock s _).trans (keeps_portSetup _))
  | transferRefusedOnForm bytes => exact outcomeKeeps_outsideReset (keeps_takeTransfer s bytes)
  | unknownCommand code => exact outcomeKeeps_outsideReset ((keeps_clock s _).trans (keeps_portCommand _ code))

theorem step_keeps (h : step s = .next t) : Keeps s t := by
  unfold step at h
  split at h
  · cases h
    exact keeps_tick s
  next c rest _ =>
    obtain ⟨u, e, keeps⟩ := exec_keeps c { s with pending := rest }
    rw [e] at h
    cases h
    have taken : Keeps s { s with pending := rest } := {}
    exact taken.trans keeps

end Sys2Proof.Machine

namespace Sys2Proof.Proofs
open Sys2Proof.Machine

/-- Settles O53: every step keeps every law. -/
theorem modeLawsKept : Obligations.ModeLawsKept := by
  unfold Obligations.ModeLawsKept
  intro s t h
  exact ⟨(step_keeps h).fallback, (step_keeps h).valid, (step_keeps h).mode⟩

/-- Settles O54: every step keeps every law. -/
theorem tableAndMonitorLawsKept : Obligations.TableAndMonitorLawsKept := by
  unfold Obligations.TableAndMonitorLawsKept
  intro s t h
  exact ⟨(step_keeps h).table, (step_keeps h).monitor⟩

/-- Settles O55: every step keeps every law. -/
theorem arbiterLawKept : Obligations.ArbiterLawKept := by
  unfold Obligations.ArbiterLawKept
  intro s t h
  exact (step_keeps h).arbiter

/-- Settles O56: every step keeps every law. -/
theorem recordAndSettingsLawsKept : Obligations.RecordAndSettingsLawsKept := by
  unfold Obligations.RecordAndSettingsLawsKept
  intro s t h
  exact ⟨(step_keeps h).settings, (step_keeps h).record⟩

/-- Settles O57: every step keeps every law. -/
theorem figureLawsKept : Obligations.FigureLawsKept := by
  unfold Obligations.FigureLawsKept
  intro s t h
  exact ⟨(step_keeps h).total, (step_keeps h).pressure, (step_keeps h).account⟩

/-- Settles O58: every step keeps every law. -/
theorem bufferLawsKept : Obligations.BufferLawsKept := by
  unfold Obligations.BufferLawsKept
  intro s t h
  exact ⟨(step_keeps h).queue, (step_keeps h).latch, (step_keeps h).slot⟩

/-- Settles O59: every step keeps every law. -/
theorem healthIntakeAndDutyLawsKept : Obligations.HealthIntakeAndDutyLawsKept := by
  unfold Obligations.HealthIntakeAndDutyLawsKept
  intro s t h
  exact ⟨(step_keeps h).health, (step_keeps h).intake, (step_keeps h).duty⟩

/-- Settles O60: the part after reset is blank, in SETUP and at its power-on settings. -/
theorem resetIsSafe : Obligations.ResetIsSafe := by
  unfold Obligations.ResetIsSafe
  exact safeState_of_powerOn State.reset_blank rfl rfl rfl rfl

end Sys2Proof.Proofs
end

section
/-! PROOF. What each command outside a reset is, the resets themselves, and the queue of waiting commands that no command
reads (R146, R159). -/

namespace Sys2Proof.Machine
open Sys2Proof.Claims

/-! ## Commands outside and during a reset -/

/-- The four commands that a reset does not hold up. -/
def aboutReset : Instr → Bool
  | .powerOn => true | .lineReset => true | .supplyDip => true | .resetEnd => true
  | _ => false

/-- What a command does outside a reset. -/
def taken : Instr → State → State
  | .openRecord n hf data, s => s.takeOpen n hf data
  | .amendCompact n hf data, s => s.takeAmend n hf data
  | .amendFull n hf data, s => s.takeAmend n hf data
  | .amendIf n hf data, s => s.takeAmendIf n hf data
  | .renew n hf _, s => s.takeRenew n hf
  | .release n hf _, s => s.takeRelease n hf
  | .query n hf data, s => s.takeQuery n hf data
  | .reserve n hf data, s => s.takeReserve n hf data
  | .qualify n hf data, s => s.takeQualify n hf data
  | .vehicleFrameIgnored f, s => s.takeVehicleFrame f
  | .leaseExpiry i, s => s.leaseExpires i
  | .graceExpiry i, s => s.graceExpires i
  | .qualifierHoldExpiry n, s => s.holdExpires n
  | .sampleFrameA ts v n ratio, s => s.takeFrameA { ts := ts, v := v, n := n, ratio := ratio }
  | .sampleFrameB ts oil ambient l0 l1 l2, s =>
    s.takeFrameB { ts := ts, oil := oil, ambient := ambient, loads := #v[l0, l1, l2] }
  | .healthFrame actuator code, s => s.takeHealth actuator code
  | .chassisFrameIgnored f, s => s.takeChassisFrame f
  | .sampleTimerExpiry, s => if s.intake.timer.isSome then s.sampleTimerExpires else s
  | .statusTimerExpiry x, s => if (s.health.entry x).timer.isSome then s.statusExpires x else s
  | .lossHoldExpiry, s => if s.ctl.lossHold.isSome && s.ctl.mode == .loss then s.lossHoldExpires else s
  | .passEnd, s => s.endPass
  | .vehicleFrameSent, s => { s with vehicleTx := s.vehicleTx.tail }
  | .chassisFrameSent, s => s.chassisSent
  | .select index, s => (s.clock (transferBytes 1 index)).portSelect index
  | .read data, s => (s.clock (transferBytes 2 data)).portRead
  | .write value, s => (s.clock (transferBytes 3 value)).portWrite value
  | .run, s => (s.clock (transferBytes 4 1)).portRun
  | .setup, s => (s.clock (transferBytes 4 2)).portSetup
  | .transferRefusedOnForm bytes, s => s.takeTransfer bytes
  | .unknownCommand code, s => (s.clock (transferBytes 4 code)).portCommand code
  | .powerOn, s => s
  | .lineReset, s => s
  | .supplyDip, s => s
  | .resetEnd, s => s

theorem exec_eq_taken {c : Instr} (ordinary : aboutReset c = false) (s : State) : exec c s = s.outsideReset (taken c) := by
  cases c with
  | powerOn => exact absurd ordinary Bool.noConfusion
  | lineReset => exact absurd ordinary Bool.noConfusion
  | supplyDip => exact absurd ordinary Bool.noConfusion
  | resetEnd => exact absurd ordinary Bool.noConfusion
  | _ => rfl

theorem exec_inReset {c : Instr} {s : State} (ordinary : aboutReset c = false) (inReset : s.inReset = true) :
    exec c s = .next s :=
  (exec_eq_taken ordinary s).trans (s.outsideReset_inReset _ inReset)

theorem exec_running {c : Instr} {s : State} (ordinary : aboutReset c = false) (running : s.inReset = false) :
    exec c s = .next (taken c s) :=
  (exec_eq_taken ordinary s).trans (s.outsideReset_running _ running)

/-! ## The queue of waiting commands -/

/-- The state with another queue of waiting commands. -/
def State.queued (s : State) (q : List Instr) : State := { s with pending := q }

variable (s : State) (q : List Instr)

@[simp] theorem queued_vehicleTx : (s.queued q).vehicleTx = s.vehicleTx := rfl
@[simp] theorem queued_latches : (s.queued q).latches = s.latches := rfl
@[simp] theorem queued_monitors : (s.queued q).monitors = s.monitors := rfl
@[simp] theorem queued_demand : (s.queued q).demand = s.demand := rfl
@[simp] theorem queued_arbiter : (s.queued q).arbiter = s.arbiter := rfl
@[simp] theorem queued_intake : (s.queued q).intake = s.intake := rfl
@[simp] theorem queued_health : (s.queued q).health = s.health := rfl
@[simp] theorem queued_settings : (s.queued q).settings = s.settings := rfl
@[simp] theorem queued_app : (s.queued q).app = s.app := rfl
@[simp] theorem queued_pass : (s.queued q).pass = s.pass := rfl
@[simp] theorem queued_chassisTx : (s.queued q).chassisTx = s.chassisTx := rfl
@[simp] theorem queued_accounts : (s.queued q).accounts = s.accounts := rfl
@[simp] theorem queued_duty : (s.queued q).duty = s.duty := rfl
@[simp] theorem queued_ctl : (s.queued q).ctl = s.ctl := rfl
@[simp] theorem queued_port : (s.queued q).port = s.port := rfl
@[simp] theorem queued_freeCount : (s.queued q).freeCount = s.freeCount := rfl
@[simp] theorem queued_slot (i : SlotId) : (s.queued q).slot i = s.slot i := rfl
@[simp] theorem queued_record (i : SlotId) : (s.queued q).record i = s.record i := rfl
@[simp] theorem queued_quals (n : Node) : (s.queued q).quals n = s.quals n := rfl

variable {q} in
/-- A choice between two operations that leave the queue alone. -/
theorem ite_queued {c : Prop} [Decidable c] {a b a' b' : State} (yes : a = a'.queued q) (no : b = b'.queued q) :
    (if c then a else b) = (if c then a' else b').queued q := by
  split_ifs
  · exact yes
  · exact no

variable {q} in
/-- An operation that commutes with a replacement of the queue, after one that does. -/
theorem apply_queued {f : State → State} (blind : ∀ s q, f (s.queued q) = (f s).queued q) {s t : State} (same : s = t.queued q) :
    f s = (f t).queued q := by rw [same, blind]

/-! ### The shared operations -/

@[simp] theorem putSlot_queued (i : SlotId) (x : Slot) : (s.queued q).putSlot i x = (s.putSlot i x).queued q := rfl
@[simp] theorem enterState_queued (i : SlotId) (st : RecState) : (s.queued q).enterState i st = (s.enterState i st).queued q := rfl
@[simp] theorem clearMonitorsOf_queued (i : SlotId) : (s.queued q).clearMonitorsOf i = (s.clearMonitorsOf i).queued q := rfl
@[simp] theorem clearMonitor_queued (n : Node) : (s.queued q).clearMonitor n = (s.clearMonitor n).queued q := rfl
@[simp] theorem setMonitor_queued (n : Node) (i : SlotId) (v : BitVec 8) :
    (s.queued q).setMonitor n i v = (s.setMonitor n i v).queued q := rfl
@[simp] theorem emptyLatch_queued (n : Node) : (s.queued q).emptyLatch n = (s.emptyLatch n).queued q := rfl
@[simp] theorem freeSlot_queued (i : SlotId) : (s.queued q).freeSlot i = (s.freeSlot i).queued q := rfl
@[simp] theorem createRecord_queued (i : SlotId) (r : Record) :
    (s.queued q).createRecord i r = (s.createRecord i r).queued q := rfl
@[simp] theorem setMode_queued (m : Mode) : (s.queued q).setMode m = (s.setMode m).queued q := rfl
@[simp] theorem clearRecovery_queued : (s.queued q).clearRecovery = s.clearRecovery.queued q := rfl
@[simp] theorem respond_queued (st : PortStatus) (v : Half) : (s.queued q).respond st v = (s.respond st v).queued q := rfl
@[simp] theorem respondFree_queued (st : PortStatus) : (s.queued q).respondFree st = (s.respondFree st).queued q := rfl
@[simp] theorem clock_queued (bytes : List Byte) : (s.queued q).clock bytes = (s.clock bytes).queued q := rfl
@[simp] theorem point_queued (p : Option PortIndex) : (s.queued q).point p = (s.point p).queued q := rfl

@[simp] theorem alignSuppression_queued : (s.queued q).alignSuppression = s.alignSuppression.queued q := by
  unfold State.alignSuppression
  exact ite_queued rfl (ite_queued rfl rfl)

@[simp] theorem admissionTest_queued (i : SlotId) : (s.queued q).admissionTest i = (s.admissionTest i).queued q := by
  simp only [State.admissionTest, queued_record, queued_arbiter]
  cases s.record i with
  | none => rfl
  | some r =>
    exact ite_queued (ite_queued (apply_queued alignSuppression_queued rfl) rfl) (ite_queued rfl rfl)

@[simp] theorem depart_queued (i : SlotId) : (s.queued q).depart i = (s.depart i).queued q := by
  simp only [State.depart, queued_arbiter]
  refine ite_queued ?_ rfl
  cases s.arbiter.waiting with
  | nil => exact apply_queued alignSuppression_queued rfl
  | cons w ws => exact apply_queued alignSuppression_queued rfl

@[simp] theorem renewSlot_queued (i : SlotId) : (s.queued q).renewSlot i = (s.renewSlot i).queued q := by
  simp only [State.renewSlot, queued_record]
  cases s.record i <;> rfl

@[simp] theorem amendSlot_queued (i : SlotId) (x : Carried) (quals : List Qualifier) :
    (s.queued q).amendSlot i x quals = (s.amendSlot i x quals).queued q := by
  simp only [State.amendSlot, queued_record]
  cases s.record i with
  | none => rfl
  | some r =>
    exact ite_queued rfl rfl

@[simp] theorem enqueue_queued (frames : List VehicleFrame) : (s.queued q).enqueue frames = (s.enqueue frames).queued q := by
  rw [State.enqueue_eq, State.enqueue_eq]
  rfl

@[simp] theorem answer_queued (k : MsgKind) (n : Node) (hf : HandleField) (r : Reply) :
    (s.queued q).answer k n hf r = (s.answer k n hf r).queued q := enqueue_queued s q _

@[simp] theorem placeSummary_queued (a b : VehicleFrame) : (s.queued q).placeSummary a b = (s.placeSummary a b).queued q := by
  simp only [State.placeSummary, queued_vehicleTx]
  cases s.vehicleTx with
  | nil => exact enqueue_queued s q _
  | cons head rest =>
    dsimp only
    cases replacePair a b rest with
    | none => exact enqueue_queued s q _
    | some rest' => rfl

@[simp] theorem handSummary_queued (a : SummaryA) (b : SummaryB) :
    (s.queued q).handSummary a b = (s.handSummary a b).queued q := placeSummary_queued s q _ _

@[simp] theorem settleOnAir_queued : (s.queued q).settleOnAir = s.settleOnAir.queued q := by
  simp only [State.settleOnAir, queued_chassisTx]
  cases s.chassisTx.lowestOffered <;> rfl

@[simp] theorem handSetPoints_queued : (s.queued q).handSetPoints = s.handSetPoints.queued q := by
  simp only [State.handSetPoints, settleOnAir_queued]
  rfl

@[simp] theorem chassisSent_queued : (s.queued q).chassisSent = s.chassisSent.queued q := by
  simp only [State.chassisSent, queued_chassisTx]
  cases s.chassisTx.lowestOffered <;> rfl

/-! ### Messages -/

@[simp] theorem openAdmit_queued (p : OpenPlan) : (s.queued q).openAdmit p = (s.openAdmit p).queued q := by
  simp only [State.openAdmit]
  cases p.replaced with
  | none => exact apply_queued (f := fun u => u.admissionTest p.slot) (fun u q => admissionTest_queued u q _) rfl
  | some k => exact apply_queued (f := fun u => u.admissionTest p.slot) (fun u q => admissionTest_queued u q _) rfl

theorem takeOpen_queued (n : Node) (hf : HandleField) (data : List Byte) :
    (s.queued q).takeOpen n hf data = (s.takeOpen n hf data).queued q := by
  have blind : (s.queued q).openCheck n hf data = s.openCheck n hf data := rfl
  simp only [State.takeOpen, blind]
  cases s.openCheck n hf data with
  | error d => exact answer_queued (s.emptyLatch n) q _ n hf _
  | ok p =>
    simp only [emptyLatch_queued, openAdmit_queued]
    exact answer_queued _ q _ n hf _

theorem takeAmend_queued (n : Node) (hf : HandleField) (data : List Byte) :
    (s.queued q).takeAmend n hf data = (s.takeAmend n hf data).queued q := by
  have blind : (s.queued q).amendCheck n hf data = s.amendCheck n hf data := rfl
  have apply (u : State) (p : AmendPlan) (quals : List Qualifier) :
      (u.queued q).amendApply p quals = (u.amendApply p quals).queued q := by
    simp only [State.amendApply, queued_record, amendSlot_queued, admissionTest_queued]
    exact ite_queued rfl rfl
  simp only [State.takeAmend, blind]
  cases s.amendCheck n hf data with
  | error d => exact answer_queued (s.emptyLatch n) q _ n hf _
  | ok p =>
    simp only [emptyLatch_queued, apply]
    exact answer_queued _ q _ n hf _

theorem takeAmendIf_queued (n : Node) (hf : HandleField) (data : List Byte) :
    (s.queued q).takeAmendIf n hf data = (s.takeAmendIf n hf data).queued q := by
  have blind : (s.queued q).amendIfCheck n data = s.amendIfCheck n data := rfl
  simp only [State.takeAmendIf, blind]
  cases s.amendIfCheck n data with
  | error d => exact answer_queued ((s.emptyLatch n).clearMonitor n) q _ n hf _
  | ok p =>
    simp only [emptyLatch_queued, clearMonitor_queued, amendSlot_queued]
    exact answer_queued _ q _ n hf _

theorem takeRenew_queued (n : Node) (hf : HandleField) : (s.queued q).takeRenew n hf = (s.takeRenew n hf).queued q := by
  have blind : (s.queued q).handleCheck n hf = s.handleCheck n hf := rfl
  simp only [State.takeRenew, blind]
  cases s.handleCheck n hf with
  | error d => exact answer_queued s q _ n hf _
  | ok x =>
    simp only [renewSlot_queued, answer_queued]
    exact ite_queued rfl rfl

theorem takeRelease_queued (n : Node) (hf : HandleField) : (s.queued q).takeRelease n hf = (s.takeRelease n hf).queued q := by
  have blind : (s.queued q).handleCheck n hf = s.handleCheck n hf := rfl
  simp only [State.takeRelease, blind]
  cases s.handleCheck n hf with
  | error d => exact answer_queued s q _ n hf _
  | ok x => simp only [freeSlot_queued, depart_queued, emptyLatch_queued, answer_queued]

@[simp] theorem report_queued (n : Node) (i : SlotId) : (s.queued q).report n i = (s.report n i).queued q := by
  simp only [State.report, queued_record]
  cases s.record i with
  | none => rfl
  | some r => exact enqueue_queued s q _

theorem takeQuery_queued (n : Node) (hf : HandleField) (data : List Byte) :
    (s.queued q).takeQuery n hf data = (s.takeQuery n hf data).queued q := by
  have blind : (s.queued q).queryCheck n hf data = s.queryCheck n hf data := rfl
  simp only [State.takeQuery, blind]
  cases s.queryCheck n hf data with
  | error d => exact answer_queued s q _ n hf _
  | ok i => exact report_queued s q n i

theorem takeReserve_queued (n : Node) (hf : HandleField) (data : List Byte) :
    (s.queued q).takeReserve n hf data = (s.takeReserve n hf data).queued q := by
  have blind : (s.queued q).reserveCheck n data = s.reserveCheck n data := rfl
  simp only [State.takeReserve, blind]
  cases s.reserveCheck n data with
  | error d => exact answer_queued (s.clearMonitor n) q _ n hf _
  | ok i => exact report_queued (s.setMonitor n i _) q n i

theorem takeQualify_queued (n : Node) (hf : HandleField) (data : List Byte) :
    (s.queued q).takeQualify n hf data = (s.takeQualify n hf data).queued q := by
  have blind : (s.queued q).qualifyCheck n data = s.qualifyCheck n data := rfl
  simp only [State.takeQualify, blind]
  cases s.qualifyCheck n data with
  | error d => exact answer_queued s q _ n hf _
  | ok x => exact answer_queued { s with latches := _ } q _ n hf _

theorem takeMessage_queued (c : Instr) : (s.queued q).takeMessage c = (s.takeMessage c).queued q := by
  cases c with
  | openRecord n hf data => exact takeOpen_queued s q n hf data
  | amendCompact n hf data => exact takeAmend_queued s q n hf data
  | amendFull n hf data => exact takeAmend_queued s q n hf data
  | amendIf n hf data => exact takeAmendIf_queued s q n hf data
  | renew n hf _ => exact takeRenew_queued s q n hf
  | release n hf _ => exact takeRelease_queued s q n hf
  | query n hf data => exact takeQuery_queued s q n hf data
  | reserve n hf data => exact takeReserve_queued s q n hf data
  | qualify n hf data => exact takeQualify_queued s q n hf data
  | _ => rfl

theorem takeVehicleFrame_queued (f : CanFrame) : (s.queued q).takeVehicleFrame f = (s.takeVehicleFrame f).queued q := by
  simp only [State.takeVehicleFrame, queued_settings]
  cases decodeVehicleFrame s.settings.protocolTag f with
  | none => rfl
  | some c => exact takeMessage_queued s q c

/-! ### Samples, expiries and passes -/

@[simp] theorem startPass_queued (x : Sample) : (s.queued q).startPass x = (s.startPass x).queued q := by
  simp only [State.startPass, State.reportPass_eq]
  rfl

theorem takeFrameA_queued (a : FrameA) : (s.queued q).takeFrameA a = (s.takeFrameA a).queued q := by
  unfold State.takeFrameA
  exact ite_queued rfl rfl

theorem takeSample_queued (x : Sample) : (s.queued q).takeSample x = (s.takeSample x).queued q := by
  simp only [State.takeSample, queued_pass]
  cases s.pass with
  | none => exact startPass_queued { s with intake := _ } q x
  | some p => rfl

theorem takeFrameB_queued (b : FrameB) : (s.queued q).takeFrameB b = (s.takeFrameB b).queued q := by
  have complete (u : State) (x : Option Sample) :
      (match x with | none => u.queued q | some x => (u.queued q).takeSample x)
        = (match x with | none => u | some x => u.takeSample x).queued q := by
    cases x with
    | none => rfl
    | some x => exact takeSample_queued u q x
  simp only [State.takeFrameB, queued_ctl, queued_intake]
  refine ite_queued rfl ?_
  cases s.intake.pendingA with
  | none => rfl
  | some a => exact ite_queued (complete { s with intake := { s.intake with pendingA := none } } (State.completeSample _ a b)) rfl

theorem takeHealth_queued (actuator code : Byte) :
    (s.queued q).takeHealth actuator code = (s.takeHealth actuator code).queued q := by
  simp only [State.takeHealth, queued_ctl, queued_settings]
  refine ite_queued rfl ?_
  cases healthSourceOf s.settings actuator <;> cases healthOfCode code <;> rfl

theorem takeChassisFrame_queued (f : CanFrame) : (s.queued q).takeChassisFrame f = (s.takeChassisFrame f).queued q := by
  unfold State.takeChassisFrame
  cases decodeChassisFrame f with
  | none => rfl
  | some c =>
    cases c with
    | sampleFrameA ts v n ratio => exact takeFrameA_queued s q _
    | sampleFrameB ts oil ambient l0 l1 l2 => exact takeFrameB_queued s q _
    | healthFrame actuator code => exact takeHealth_queued s q _ _
    | _ => rfl

theorem reissue_queued : (s.queued q).reissue = s.reissue.queued q :=
  handSetPoints_queued { s with app := { s.app with last := s.app.last.reissued s.health.values } } q

theorem fallback_queued : (s.queued q).fallback = s.fallback.queued q := by
  have handed := handSetPoints_queued { s with
    app := { s.app with last := (s.fallbackSetPoints (fgovOf (governing s.demand.slots s.demand.age))).1 }
    ctl := { s.ctl with sigma := (s.fallbackSetPoints (fgovOf (governing s.demand.slots s.demand.age))).2 } } q
  unfold State.fallback
  dsimp only
  erw [handed]
  exact handSummary_queued _ q _ _

theorem missedPeriod_queued : (s.queued q).missedPeriod = s.missedPeriod.queued q := by
  simp only [State.missedPeriod, queued_ctl]
  cases s.ctl.mode with
  | setup => rfl
  | startup => rfl
  | normal => rfl
  | hold => exact apply_queued reissue_queued rfl
  | loss => exact apply_queued reissue_queued rfl
  | failsafe => exact apply_queued fallback_queued rfl

theorem leaseExpires_queued (i : SlotId) : (s.queued q).leaseExpires i = (s.leaseExpires i).queued q := by
  simp only [State.leaseExpires, queued_record]
  cases s.record i with
  | none => rfl
  | some r =>
    exact ite_queued (apply_queued (f := fun u => u.depart i) (fun u q => depart_queued u q i) rfl) rfl

theorem settleSigma_queued (p : Pass) : (s.queued q).settleSigma p = (s.settleSigma p).queued q := by
  unfold State.settleSigma
  exact ite_queued rfl rfl

theorem issuePass_queued (p : Pass) (f : Figures) : (s.queued q).issuePass p f = (s.issuePass p f).queued q := by
  have settled := settleSigma_queued { s with app := s.app.written f } q p
  unfold State.issuePass
  dsimp only
  erw [settled, handSetPoints_queued]
  exact handSummary_queued _ q _ _

theorem takeUpdates_queued (p : Pass) (f : Figures) : (s.queued q).takeUpdates p f = (s.takeUpdates p f).queued q := rfl

theorem endPass_queued : (s.queued q).endPass = s.endPass.queued q := by
  have held (u : State) (q : List Instr) : (u.queued q).startHeld = u.startHeld.queued q := by
    simp only [State.startHeld, queued_intake]
    cases u.intake.held with
    | none => rfl
    | some x => exact startPass_queued { u with intake := _ } q x
  simp only [State.endPass, queued_pass, queued_settings, queued_app, issuePass_queued, takeUpdates_queued]
  cases s.pass with
  | none => rfl
  | some p =>
    dsimp only
    generalize (s.issuePass p (p.figures s.settings s.app)).takeUpdates p (p.figures s.settings s.app) = u
    exact held { u with pass := none } q

/-! ### The setting port -/

theorem portSelect_queued (index : Half) : (s.queued q).portSelect index = (s.portSelect index).queued q := by
  unfold State.portSelect
  cases PortIndex.ofCode index.toNat <;> rfl

theorem portRead_queued : (s.queued q).portRead = s.portRead.queued q := by
  simp only [State.portRead, queued_port]
  cases s.port.pointer <;> rfl

theorem portWrite_queued (value : Half) : (s.queued q).portWrite value = (s.portWrite value).queued q := by
  simp only [State.portWrite, queued_port, queued_ctl]
  cases s.port.pointer with
  | none => rfl
  | some i =>
    cases i with
    | live l => rfl
    | setting i =>
      exact ite_queued rfl (ite_queued rfl rfl)

theorem portRun_queued : (s.queued q).portRun = s.portRun.queued q := by
  simp only [State.portRun, queued_ctl, queued_settings]
  refine ite_queued rfl ?_
  cases inconsistency s.settings <;> rfl

theorem portSetup_queued : (s.queued q).portSetup = s.portSetup.queued q := by
  have used : (s.queued q).slotsInUse = s.slotsInUse := rfl
  have moving : (s.queued q).inMotion = s.inMotion := rfl
  simp only [State.portSetup, queued_ctl, used, moving]
  refine ite_queued rfl ?_
  cases s.inMotion with
  | some v => rfl
  | none => exact congrArg (State.respond · _ _) (ite_queued (a' := s) (b' := s.enterSetup) rfl rfl)

theorem portCommand_queued (code : Half) : (s.queued q).portCommand code = (s.portCommand code).queued q := by
  simp only [State.portCommand, portRun_queued, portSetup_queued]
  exact ite_queued rfl (ite_queued rfl rfl)

theorem takeTransfer_queued (bytes : List Byte) : (s.queued q).takeTransfer bytes = (s.takeTransfer bytes).queued q := by
  simp only [State.takeTransfer, clock_queued, queued_port]
  cases decodeTransfer (s.clock bytes).port.input with
  | error e => rfl
  | ok c =>
    cases c with
    | select index => exact portSelect_queued (s.clock _) q index
    | read data => exact portRead_queued (s.clock _) q
    | write value => exact portWrite_queued (s.clock _) q value
    | run => exact portRun_queued (s.clock _) q
    | setup => exact portSetup_queued (s.clock _) q
    | unknownCommand code => exact portCommand_queued (s.clock _) q code
    | _ => rfl

/-! ### Every command -/

theorem taken_queued (c : Instr) : taken c (s.queued q) = (taken c s).queued q := by
  cases c with
  | openRecord n hf data => exact takeOpen_queued s q n hf data
  | amendCompact n hf data => exact takeAmend_queued s q n hf data
  | amendFull n hf data => exact takeAmend_queued s q n hf data
  | amendIf n hf data => exact takeAmendIf_queued s q n hf data
  | renew n hf _ => exact takeRenew_queued s q n hf
  | release n hf _ => exact takeRelease_queued s q n hf
  | query n hf data => exact takeQuery_queued s q n hf data
  | reserve n hf data => exact takeReserve_queued s q n hf data
  | qualify n hf data => exact takeQualify_queued s q n hf data
  | vehicleFrameIgnored f => exact takeVehicleFrame_queued s q f
  | leaseExpiry i => exact leaseExpires_queued s q i
  | graceExpiry i =>
    exact ite_queued (freeSlot_queued s q i) rfl
  | qualifierHoldExpiry n =>
    exact ite_queued (emptyLatch_queued s q n) rfl
  | sampleFrameA ts v n ratio => exact takeFrameA_queued s q _
  | sampleFrameB ts oil ambient l0 l1 l2 => exact takeFrameB_queued s q _
  | healthFrame actuator code => exact takeHealth_queued s q actuator code
  | chassisFrameIgnored f => exact takeChassisFrame_queued s q f
  | sampleTimerExpiry =>
    exact ite_queued (missedPeriod_queued { s with intake := _ } q) rfl
  | statusTimerExpiry x =>
    exact ite_queued (b' := s) rfl rfl
  | lossHoldExpiry =>
    exact ite_queued (b' := s) rfl rfl
  | passEnd => exact endPass_queued s q
  | vehicleFrameSent => rfl
  | chassisFrameSent => exact chassisSent_queued s q
  | select index => exact portSelect_queued (s.clock _) q index
  | read data => exact portRead_queued (s.clock _) q
  | write value => exact portWrite_queued (s.clock _) q value
  | run => exact portRun_queued (s.clock _) q
  | setup => exact portSetup_queued (s.clock _) q
  | transferRefusedOnForm bytes => exact takeTransfer_queued s q bytes
  | unknownCommand code => exact portCommand_queued (s.clock _) q code
  | _ => rfl

/-- An operation that commutes with every replacement of the queue leaves it. -/
theorem pending_of_queued {f : State → State} (blind : ∀ q, f (s.queued q) = (f s).queued q) : (f s).pending = s.pending := by
  have unchanged : s.queued s.pending = s := rfl
  calc (f s).pending = (f (s.queued s.pending)).pending := by rw [unchanged]
    _ = s.pending := by rw [blind]; rfl

theorem exec_queued (c : Instr) :
    ∃ t : State, exec c s = .next t ∧ t.pending = s.pending ∧ exec c (s.queued q) = .next (t.queued q) := by
  by_cases ordinary : aboutReset c = false
  · refine ⟨if s.inReset then s else taken c s, exec_eq_taken ordinary s, ?_, ?_⟩
    · split_ifs
      · rfl
      · exact pending_of_queued s fun q => taken_queued s q c
    · rw [exec_eq_taken ordinary, State.outsideReset, taken_queued]
      exact congrArg Host.Outcome.next (ite_queued (a' := s) (b' := taken c s) rfl rfl)
  · cases c with
    | powerOn => exact ⟨_, rfl, rfl, rfl⟩
    | lineReset => exact ⟨_, rfl, rfl, rfl⟩
    | supplyDip => exact ⟨_, rfl, rfl, rfl⟩
    | resetEnd =>
      refine ⟨_, rfl, ?_, ?_⟩
      · split_ifs <;> rfl
      · exact congrArg Host.Outcome.next (ite_queued (b' := s) rfl rfl)
    | _ => exact absurd rfl ordinary

/-! ## The beginnings of the resets -/

/-- The FALLBACK line is asserted in either mode that a reset sets (R145). -/
theorem modeAfterReset_assertsFallback (valid : Bool) : (modeAfterReset valid).assertsFallback = true := by cases valid <;> rfl

end Sys2Proof.Machine

namespace Sys2Proof.Proofs
open Sys2Proof.Machine

/-- Settles O1, by the definition of a step. -/
theorem stepTakesFrontCommand : Obligations.StepTakesFrontCommand := by
  unfold Obligations.StepTakesFrontCommand
  intro c rest s
  rfl

/-- Settles O2: every operation commutes with a replacement of the queue. -/
theorem noCommandStops : Obligations.NoCommandStops := by
  unfold Obligations.NoCommandStops
  exact fun c s queue => exec_queued s queue c

/-- Settles O4. -/
theorem resetTakesNoEvent : Obligations.ResetTakesNoEvent := by
  unfold Obligations.ResetTakesNoEvent
  intro s inReset
  refine ⟨fun c powerOn lineReset supplyDip resetEnd => exec_inReset ?_ inReset, ?_, ?_⟩
  · cases c with
    | powerOn => exact absurd rfl powerOn
    | lineReset => exact absurd rfl lineReset
    | supplyDip => exact absurd rfl supplyDip
    | resetEnd => exact absurd rfl resetEnd
    | _ => rfl
  · exact congrArg Host.Outcome.next (if_pos inReset)
  · exact congrArg Host.Outcome.next (if_pos inReset)

/-- Settles O5: the table of power-on values is evaluated, the three states are those of the definitions. -/
theorem resetEffects : Obligations.ResetEffects := by
  unfold Obligations.ResetEffects
  intro s
  refine ⟨by decide +kernel, rfl, ?_, ?_⟩
  · show Host.Outcome.next ((s.resetBlocks .line).setMode (modeAfterReset s.ctl.settingsValid)) = _
    rw [State.setMode, modeAfterReset_assertsFallback]
    rfl
  · show Host.Outcome.next ((s.resetBlocks .supplyDip).setMode (modeAfterReset s.ctl.settingsValid)) = _
    rw [State.setMode, modeAfterReset_assertsFallback]
    rfl

end Sys2Proof.Proofs
end

section
/-! PROOF. The index map and the table of settings (R162 to R165, R183, R184), and the transfers of the setting port (R159 to
R163). -/

namespace Sys2Proof.Machine
open Sys2Proof.Claims

/-! ## The index map (R183) -/

theorem PortIndex.mem_all (i : PortIndex) : i ∈ PortIndex.all := by
  rcases i with i | l
  · exact List.mem_append_left _ (List.mem_map_of_mem i.mem_all)
  · refine List.mem_append_right _ (List.mem_map_of_mem ?_)
    cases l <;> simp [LiveIndex.all]

theorem PortIndex.ofCode_code (i : PortIndex) : PortIndex.ofCode i.code = some i := by
  have each : ∀ i ∈ PortIndex.all, PortIndex.ofCode i.code = some i := by decide +kernel
  exact each i i.mem_all

theorem PortIndex.code_injective {i j : PortIndex} (same : i.code = j.code) : i = j := by
  have found := i.ofCode_code
  rw [same, j.ofCode_code] at found
  exact (Option.some.inj found).symm

theorem SettingIndex.code_injective {i j : SettingIndex} (same : i.code = j.code) : i = j :=
  PortIndex.setting.inj (PortIndex.code_injective same)

theorem PortIndex.ofCode_eq_none {n : Nat} (missing : ∀ i : PortIndex, i.code ≠ n) : PortIndex.ofCode n = none :=
  List.find?_eq_none.2 fun i _ => by simpa using missing i

theorem mem_liveRows_iff (n : Nat) (l : LiveIndex) : (n, l) ∈ liveRows ↔ n = l.code := by
  constructor
  · have each : ∀ x ∈ liveRows, x.1 = x.2.code := by decide
    exact fun h => each _ h
  · rintro rfl
    cases l with
    | temperature j => fin_cases j <;> decide
    | _ => decide

/-! ## The rows of the settings -/

/-- Row r of the tables is that of setting i in the image: its number, its field and its range. -/
structure RowOf (t : Settings) (i : SettingIndex) (r : Row) : Prop where
  index : r.index = i.code
  field : r.field = t.get i
  range : ∀ x : Half, i.inRange x = true ↔ r.admits x

variable {t : Settings} {i : SettingIndex} {low high powerOn : Int}

theorem row_admits_iff (index : Nat) (field : Half) (low high powerOn : Int) (x : Half) :
    (row index field low high powerOn).admits x ↔ low ≤ x.toNat ∧ (x.toNat : Int) ≤ high := by
  simp [Row.admits, row, Row.number]

theorem RowOf.unsigned (range : ∀ x : Half, i.inRange x = true ↔ low ≤ x.toNat ∧ (x.toNat : Int) ≤ high) :
    RowOf t i (row i.code (t.get i) low high powerOn) :=
  ⟨rfl, rfl, fun x => (range x).trans (row_admits_iff ..).symm⟩

theorem RowOf.signed (range : ∀ x : Half, i.inRange x = true ↔ low ≤ x.toInt ∧ x.toInt ≤ high) :
    RowOf t i (degrees i.code (t.get i) low high powerOn) :=
  ⟨rfl, rfl, fun x => (range x).trans (by simp [Row.admits, degrees, row, Row.number])⟩

theorem RowOf.pressure (j : AxleId) :
    RowOf t (.pmax j) { row (0x78 + j) t.pmax[j] 200 1000 600 with fives := true } :=
  ⟨rfl, rfl, fun x => by simp [SettingIndex.inRange, Row.admits, row, Row.number, and_assoc]⟩

/-- The settings of a class that every class holds, in the order of its columns. -/
def classIndexes (c : Fin 6) : List SettingIndex := [.classSources c, .classLeaseMin c, .classLeaseMax c, .classGrace c]

/-- The settings in the order of the rows. -/
def rowIndexes : List SettingIndex := List.flatten
  [[.protocolTag, .qualifierHold],
   classIndexes 0, classIndexes 1, classIndexes 2, classIndexes 3, classIndexes 4, classIndexes 5,
   [.classInhibit 0, .classInhibit 1],
   [.classOnset 0, .classOnset 1, .classOnset 2, .classOnset 3, .classOnset 4],
   (List.finRange 16).map .classRights, (List.finRange 16).map .shareRights,
   [.sampleTimeout, .statusTimeout, .nominalMass, .axleCount, .rDyn, .mu],
   (List.finRange 3).map .gain, (List.finRange 3).map .pmax,
   (List.finRange 17).map .retPoint, (List.finRange 17).map .stage1Point, (List.finRange 17).map .stage2Point,
   (List.finRange 3).map .split,
   [.retPitch, .exhPitch, .exhOrigin, .tder, .tcut, .releaseRate, .hysteresis],
   (List.finRange 3).map .cth, (List.finRange 3).map .tau,
   [.ts, .te, .fadeFloor, .initialTemp, .dutyThreshold, .lossHold]]

theorem mem_rowIndexes (i : SettingIndex) : i ∈ rowIndexes := by
  have each : ∀ i ∈ SettingIndex.all, i ∈ rowIndexes := by decide +kernel
  exact each i i.mem_all

theorem rowOf_classColumns (t : Settings) (c : Fin 6) (sources leaseMin leaseMax grace : Int) :
    List.Forall₂ (RowOf t) (classIndexes c) (classColumns t c sources leaseMin leaseMax grace) :=
  .cons (.unsigned (by simp [SettingIndex.inRange])) <| .cons (.unsigned (by simp [SettingIndex.inRange])) <|
  .cons (.unsigned (by simp [SettingIndex.inRange])) <| .cons (.unsigned (by simp [SettingIndex.inRange])) .nil

theorem rowOf_map {n : Nat} {f : Fin n → SettingIndex} {g : Fin n → Row} (each : ∀ k, RowOf t (f k) (g k)) :
    List.Forall₂ (RowOf t) ((List.finRange n).map f) ((List.finRange n).map g) :=
  List.forall₂_map_left_iff.2 (List.forall₂_map_right_iff.2 (List.forall₂_same.2 fun k _ => each k))

/-- Every row is that of its setting (R53, R165, R183). -/
theorem rowOf_settingRows (t : Settings) : List.Forall₂ (RowOf t) rowIndexes (settingRows t) := by
  have general : List.Forall₂ (RowOf t) [.protocolTag, .qualifierHold]
      [row 0x01 t.protocolTag 0 0x1FFF 0x0B5A, row 0x02 t.qualifierHold 10 250 40] :=
    .cons (.unsigned (by simp [SettingIndex.inRange])) <| .cons (.unsigned (by simp [SettingIndex.inRange])) .nil
  have inhibits : List.Forall₂ (RowOf t) [.classInhibit 0, .classInhibit 1]
      [row 0x11 t.inhibits[0] 0 7 3, row 0x19 t.inhibits[1] 0 7 0] :=
    .cons (.unsigned (by simp [SettingIndex.inRange])) <| .cons (.unsigned (by simp [SettingIndex.inRange])) .nil
  have onsets : List.Forall₂ (RowOf t) [.classOnset 0, .classOnset 1, .classOnset 2, .classOnset 3, .classOnset 4]
      [row 0x1A t.onsets[0] 0 20000 0, row 0x22 t.onsets[1] 1 20000 4000, row 0x2A t.onsets[2] 1 20000 1500,
       row 0x32 t.onsets[3] 1 20000 800, row 0x3A t.onsets[4] 1 20000 600] :=
    .cons (.unsigned (by simp [SettingIndex.inRange])) <| .cons (.unsigned (by simp [SettingIndex.inRange])) <|
    .cons (.unsigned (by simp [SettingIndex.inRange])) <| .cons (.unsigned (by simp [SettingIndex.inRange])) <|
    .cons (.unsigned (by simp [SettingIndex.inRange])) .nil
  have coach : List.Forall₂ (RowOf t) [.sampleTimeout, .statusTimeout, .nominalMass, .axleCount, .rDyn, .mu]
      [row 0x60 t.sampleTimeout 5 100 15, row 0x61 t.statusTimeout 20 500 100, row 0x62 t.nominalMass 50 280 180,
       row 0x70 t.axleCount 0 255 0, row 0x71 t.rDyn 400 600 495, row 0x72 t.mu 10 100 60] :=
    .cons (.unsigned (by simp [SettingIndex.inRange])) <| .cons (.unsigned (by simp [SettingIndex.inRange])) <|
    .cons (.unsigned (by simp [SettingIndex.inRange])) <| .cons (.unsigned (by simp [SettingIndex.inRange])) <|
    .cons (.unsigned (by simp [SettingIndex.inRange])) <| .cons (.unsigned (by simp [SettingIndex.inRange])) .nil
  have retarder : List.Forall₂ (RowOf t) [.retPitch, .exhPitch, .exhOrigin, .tder, .tcut, .releaseRate, .hysteresis]
      [row 0xE4 t.retPitch 0 3 0, row 0xE5 t.exhPitch 0 3 0, row 0xE6 t.exhOrigin 400 1200 600,
       degrees 0xF0 t.tder (-40) 210 140, degrees 0xF1 t.tcut (-40) 210 165, row 0x100 t.releaseRate 1 20000 3000,
       row 0x101 t.hysteresis 0 200 30] :=
    .cons (.unsigned (by simp [SettingIndex.inRange])) <| .cons (.unsigned (by simp [SettingIndex.inRange])) <|
    .cons (.unsigned (by simp [SettingIndex.inRange])) <| .cons (.signed (by simp [SettingIndex.inRange])) <|
    .cons (.signed (by simp [SettingIndex.inRange])) <| .cons (.unsigned (by simp [SettingIndex.inRange])) <|
    .cons (.unsigned (by simp [SettingIndex.inRange])) .nil
  have fade : List.Forall₂ (RowOf t) [.ts, .te, .fadeFloor, .initialTemp, .dutyThreshold, .lossHold]
      [degrees 0x118 t.ts 0 900 300, degrees 0x119 t.te 0 900 500, row 0x11A t.fadeFloor 64 256 128,
       degrees 0x11B t.initialTemp (-40) 600 150, row 0x120 t.dutyThreshold 10 65535 1200,
       row 0x121 t.lossHold 100 5000 1000] :=
    .cons (.signed (by simp [SettingIndex.inRange])) <| .cons (.signed (by simp [SettingIndex.inRange])) <|
    .cons (.unsigned (by simp [SettingIndex.inRange])) <| .cons (.signed (by simp [SettingIndex.inRange])) <|
    .cons (.unsigned (by simp [SettingIndex.inRange])) <| .cons (.unsigned (by simp [SettingIndex.inRange])) .nil
  refine List.rel_flatten ?_
  exact .cons general <| .cons (rowOf_classColumns ..) <| .cons (rowOf_classColumns ..) <| .cons (rowOf_classColumns ..) <|
    .cons (rowOf_classColumns ..) <| .cons (rowOf_classColumns ..) <| .cons (rowOf_classColumns ..) <|
    .cons inhibits <| .cons onsets <|
    .cons (rowOf_map fun m => .unsigned (by simp [SettingIndex.inRange])) <|
    .cons (rowOf_map fun m => .unsigned (by simp [SettingIndex.inRange])) <|
    .cons coach <|
    .cons (rowOf_map fun j => .unsigned (by simp [SettingIndex.inRange])) <|
    .cons (rowOf_map fun j => .pressure j) <|
    .cons (rowOf_map fun k => .unsigned (by simp [SettingIndex.inRange])) <|
    .cons (rowOf_map fun k => .unsigned (by simp [SettingIndex.inRange])) <|
    .cons (rowOf_map fun k => .unsigned (by simp [SettingIndex.inRange])) <|
    .cons (rowOf_map fun j => .unsigned (by simp [SettingIndex.inRange])) <|
    .cons retarder <|
    .cons (rowOf_map fun j => .unsigned (by simp [SettingIndex.inRange])) <|
    .cons (rowOf_map fun j => .unsigned (by simp [SettingIndex.inRange])) <|
    .cons fade .nil

/-- Every setting has its row. -/
theorem exists_row (t : Settings) (i : SettingIndex) : ∃ r ∈ settingRows t, RowOf t i r := by
  obtain ⟨k, hk, rfl⟩ := List.getElem_of_mem (mem_rowIndexes i)
  have same := (rowOf_settingRows t).length_eq
  exact ⟨_, List.getElem_mem (same ▸ hk), (rowOf_settingRows t).get hk (same ▸ hk)⟩

/-- Every row has its setting. -/
theorem exists_setting (t : Settings) {r : Row} (mem : r ∈ settingRows t) : ∃ i, RowOf t i r := by
  obtain ⟨k, hk, rfl⟩ := List.getElem_of_mem mem
  have same := (rowOf_settingRows t).length_eq
  exact ⟨_, (rowOf_settingRows t).get (same.symm ▸ hk) hk⟩

theorem inRange_iff_admits {r : Row} (mem : r ∈ settingRows t) (index : r.index = i.code) (x : Half) :
    i.inRange x = true ↔ r.admits x := by
  obtain ⟨j, named, -, range⟩ := exists_setting t mem
  obtain rfl : j = i := SettingIndex.code_injective (named.symm.trans index)
  exact range x

end Sys2Proof.Machine
end

section
/-! PROOF. The transfers of the setting port, RUN and SETUP (R150, R159 to R170). -/

namespace Sys2Proof.Machine
open Sys2Proof.Claims

variable {s : State} {t : Settings}

/-! ## A transfer and its response (R159, R160) -/

theorem Response.bytes_eq (r : Response) :
    r.bytes = [byte r.status.code, r.value.setWidth 8, (r.value >>> 8).setWidth 8,
      ~~~ (byte r.status.code ^^^ r.value.setWidth 8 ^^^ (r.value >>> 8).setWidth 8)] := rfl

theorem Response.bytes_length (r : Response) : r.bytes.length = 4 := rfl

theorem transferBytes_length (op : Byte) (d : Half) : (transferBytes op d).length = 4 := rfl

/-- The response to the bytes clocked in, in the words of the statements. -/
theorem respond_clock (s : State) (bytes : List Byte) (st : PortStatus) (v : Half) :
    (s.clock bytes).respond st v = replied s bytes st v := by
  have out : (s.port.response.bytes ++ List.replicate bytes.length 0).take bytes.length
      = s.port.response.bytes.take bytes.length ++ List.replicate (bytes.length - 4) 0 := by
    rw [List.take_append, Response.bytes_length, List.take_replicate, min_eq_left (Nat.sub_le _ _)]
  simp only [State.clock, State.respond, replied, out]

theorem respondFree_clock (s : State) (bytes : List Byte) (st : PortStatus) :
    ∃ (v : Half) (k : Nat), (s.clock bytes).respondFree st = { replied s bytes st v with freeCount := k } :=
  ⟨_, _, by rw [State.respondFree, respond_clock]⟩

/-! ## SELECT, READ and WRITE (R161 to R163) -/

theorem select_named {x : Half} {i : PortIndex} (named : i.code = x.toNat) (s : State) :
    taken (.select x) s
      = replied { s with port := { s.port with pointer := some i } } (transferBytes 1 x) .ok x := by
  have found : PortIndex.ofCode x.toNat = some i := named ▸ i.ofCode_code
  simp only [taken, State.portSelect, found]
  exact respond_clock (s.point (some i)) _ _ _

theorem select_missing {x : Half} (missing : ∀ i : PortIndex, i.code ≠ x.toNat) (s : State) :
    taken (.select x) s = replied (unselected s) (transferBytes 1 x) .badIndex 0 := by
  simp only [taken, State.portSelect, PortIndex.ofCode_eq_none missing]
  exact respond_clock (s.point none) _ _ _

theorem read_unselected (h : s.port.pointer = none) (x : Half) :
    taken (.read x) s = replied s (transferBytes 2 x) .noSelect 0 := by
  have pointer : (s.clock (transferBytes 2 x)).port.pointer = none := h
  simp only [taken, State.portRead, pointer]
  exact respond_clock s _ _ _

theorem read_selected {i : PortIndex} (h : s.port.pointer = some i) (x : Half) :
    taken (.read x) s = replied (unselected s) (transferBytes 2 x) .ok (s.valueAt i) := by
  have pointer : (s.clock (transferBytes 2 x)).port.pointer = some i := h
  have value : (s.clock (transferBytes 2 x)).valueAt i = s.valueAt i := by cases i <;> rfl
  simp only [taken, State.portRead, pointer, value]
  exact respond_clock (s.point none) _ _ _

theorem write_unselected (h : s.port.pointer = none) (x : Half) :
    taken (.write x) s = replied s (transferBytes 3 x) .noSelect 0 := by
  have pointer : (s.clock (transferBytes 3 x)).port.pointer = none := h
  simp only [taken, State.portWrite, pointer]
  exact respond_clock s _ _ _

theorem write_live {l : LiveIndex} (h : s.port.pointer = some (.live l)) (x : Half) :
    taken (.write x) s = replied (unselected s) (transferBytes 3 x) .readOnly (s.liveValue l) := by
  have pointer : (s.clock (transferBytes 3 x)).port.pointer = some (.live l) := h
  simp only [taken, State.portWrite, pointer]
  exact respond_clock (s.point none) _ _ _

/-- A WRITE to a selected setting: NOT_SETUP, then RANGE, then the value is stored (R163). -/
theorem write_setting {i : SettingIndex} (h : s.port.pointer = some (.setting i)) (x : Half) :
    taken (.write x) s =
      if s.ctl.mode ≠ .setup then replied (unselected s) (transferBytes 3 x) .notSetup (s.settings.get i)
      else if i.inRange x = false then replied (unselected s) (transferBytes 3 x) .range (s.settings.get i)
      else replied { unselected s with settings := s.settings.set i x } (transferBytes 3 x) .ok x := by
  have pointer : (s.clock (transferBytes 3 x)).port.pointer = some (.setting i) := h
  simp only [taken, State.portWrite, pointer, State.clock_ctl, Bool.not_eq_true']
  split_ifs
  · exact respond_clock (s.point none) _ _ _
  · exact respond_clock (s.point none) _ _ _
  · exact respond_clock { s.point none with settings := s.settings.set i x } _ _ _

/-! ## The live values (R170, R184) -/

theorem toNat_half {n : Nat} (h : n < 65536) : (BitVec.ofNat 16 n).toNat = n := by
  rw [BitVec.toNat_ofNat, Nat.mod_eq_of_lt h]

theorem slotsInUse_lt (s : State) : s.slotsInUse < 65536 := by
  have bound : s.slotsInUse ≤ (List.finRange 24).length := List.length_filter_le _ _
  rw [List.length_finRange] at bound
  omega

theorem liveValue_mode (s : State) : s.liveValue .mode = match s.ctl.mode with
    | .setup => 0 | .startup => 1 | .normal => 2 | .hold => 3 | .loss => 4 | .failsafe => 5 := by
  simp only [State.liveValue]
  cases s.ctl.mode <;> rfl

theorem liveValue_resetCause (s : State) : s.liveValue .resetCause = match s.ctl.cause with
    | .powerOn => 0 | .line => 1 | .supplyDip => 2 := by
  simp only [State.liveValue]
  cases s.ctl.cause <;> rfl

theorem liveValue_settingsValid (s : State) : s.liveValue .settingsValid = if s.ctl.settingsValid = true then 1 else 0 := by
  unfold State.liveValue
  cases s.ctl.settingsValid <;> rfl

theorem liveValue_unset {j : AxleId} (unset : s.accounts[j] = none) : s.liveValue (.temperature j) = 0x8000 := by
  simp only [State.liveValue, unset]
  rfl

theorem liveValue_temperature {j : AxleId} {a : Account} (set : a ∈ s.accounts[j]) (low : -640 ≤ a.t16) (high : a.t16 ≤ 14400) :
    (s.liveValue (.temperature j)).toInt = a.t16 := by
  simp only [State.liveValue, Option.mem_def.1 set, Option.map_some, Option.getD_some]
  rw [BitVec.toInt_ofInt, Int.bmod_eq_of_le_mul_two] <;> omega

theorem liveValue_dutyBits (s : State) :
    (s.liveValue .dutyBits).getLsbD 0 = s.duty.running ∧ (s.liveValue .dutyBits).getLsbD 1 = s.duty.warn
      ∧ (s.liveValue .dutyBits).toNat < 4 := by
  simp only [State.liveValue]
  cases s.duty.running <;> cases s.duty.warn <;> decide

theorem liveValue_passCount (s : State) : (s.liveValue .passCount).toNat = s.app.passCount.toNat := by
  have bound := s.app.passCount.isLt
  simp only [State.liveValue, BitVec.toNat_setWidth]
  omega

/-! ## The consistency checks (R167) -/

/-- Axle counts of 2 and 3, as the checks read them. -/
theorem axles_iff (t : Settings) : ¬ (t.axleCount ≠ 2 ∧ t.axleCount ≠ 3) ↔ t.axleCount = 2 ∨ t.axleCount = 3 := by tauto

theorem splitSum_eq (axles : t.axleCount = 2 ∨ t.axleCount = 3) :
    splitSum t = t.split[0].toNat + t.split[1].toNat + (if t.axleCount = 3 then t.split[2].toNat else 0) := by
  rcases axles with two | three
  · simp [splitSum, Settings.axleConfigured, List.finRange, two]
  · simp [splitSum, Settings.axleConfigured, List.finRange, three, Nat.add_assoc]

theorem find_finRange_eq_some {n : Nat} {p : Fin n → Bool} {k : Fin n} (found : p k = true) (first : ∀ l < k, p l = false) :
    (List.finRange n).find? p = some k := by
  rw [List.find?_eq_some_iff_getElem]
  refine ⟨found, k.val, by simp, by simp, fun j hj => ?_⟩
  simp [first ⟨j, hj.trans k.isLt⟩ hj]

theorem exhaustFault_eq_some {k : Fin 17} (fault : ¬ t.stage1Points[k].toNat ≤ t.stage2Points[k].toNat)
    (first : ∀ l < k, t.stage1Points[l].toNat ≤ t.stage2Points[l].toNat) : exhaustFault t = some k :=
  find_finRange_eq_some (by simpa using fault) fun l hl => by simpa using first l hl

theorem nodeFault_eq_some {m : Node} (fault : ¬ t.classRights[m].toNat < 64) (first : ∀ l < m, t.classRights[l].toNat < 64) :
    nodeFault t = some m :=
  find_finRange_eq_some (by simpa using fault) fun l hl => by simpa using first l hl

theorem nodeFault_eq_none_iff (t : Settings) : nodeFault t = none ↔ ∀ m : Node, t.classRights[m].toNat < 64 := by
  simp [nodeFault, List.find?_eq_none]

/-- The checks of the image that name no point and no node have passed. -/
theorem inconsistency_of_image (axles : t.axleCount = 2 ∨ t.axleCount = 3) (split : splitSum t = 100)
    (retarder : t.tder.toInt < t.tcut.toInt) (fade : t.ts.toInt < t.te.toInt) :
    (∀ k, exhaustFault t = some k → inconsistency t = some (5, k.val))
    ∧ (exhaustFault t = none → inconsistency t = (nodeFault t).map fun m => (6, m.val)) := by
  unfold inconsistency
  rw [if_neg ((axles_iff t).2 axles), if_neg (not_not.2 split), if_neg (not_le.2 retarder), if_neg (not_le.2 fade)]
  exact ⟨fun k fault => by simp only [fault], fun passed => by simp only [passed]⟩

theorem inconsistency_eq_none_iff (t : Settings) :
    inconsistency t = none ↔ (t.axleCount = 2 ∨ t.axleCount = 3) ∧ splitSum t = 100 ∧ t.tder.toInt < t.tcut.toInt
      ∧ t.ts.toInt < t.te.toInt ∧ exhaustFault t = none ∧ nodeFault t = none := by
  constructor
  · unfold inconsistency
    split_ifs with axles split retarder fade <;> intro passed
    · cases passed
    · cases passed
    · cases passed
    · cases passed
    · refine ⟨(axles_iff t).1 axles, not_not.1 split, not_le.1 retarder, not_le.1 fade, ?_⟩
      rcases e : exhaustFault t with _ | k
      · rw [e] at passed
        exact ⟨rfl, Option.map_eq_none_iff.1 passed⟩
      · rw [e] at passed
        cases passed
  · rintro ⟨axles, split, retarder, fade, exhaust, node⟩
    rw [(inconsistency_of_image axles split retarder fade).2 exhaust, node, Option.map_none]

/-! ## RUN (R148, R166 to R168) -/

theorem run_refused (h : s.ctl.mode ≠ .setup) :
    taken .run s = replied s (transferBytes 4 1) .notSetup (BitVec.ofNat 16 s.ctl.mode.code) := by
  have mode : (s.clock (transferBytes 4 1)).ctl.mode ≠ .setup := h
  simp only [taken, State.portRun, if_pos mode]
  exact respond_clock s _ _ _

theorem run_inconsistent (h : s.ctl.mode = .setup) {group item : Nat} (failed : inconsistency s.settings = some (group, item)) :
    taken .run s = replied s (transferBytes 4 1) .inconsistent (BitVec.ofNat 16 (256 * group + item)) := by
  have mode : ¬ (s.clock (transferBytes 4 1)).ctl.mode ≠ .setup := not_not.2 h
  simp only [taken, State.portRun, State.clock_settings, if_neg mode, failed]
  exact respond_clock s _ _ _

theorem run_accepted (h : s.ctl.mode = .setup) (passed : inconsistency s.settings = none) :
    taken .run s = replied s.runAccepted (transferBytes 4 1) .ok 1 := by
  have mode : ¬ (s.clock (transferBytes 4 1)).ctl.mode ≠ .setup := not_not.2 h
  simp only [taken, State.portRun, State.clock_settings, if_neg mode, passed]
  exact respond_clock s.runAccepted _ _ _

/-! ## SETUP (R150, R166, R169) -/

theorem inMotion_eq_none (atRest : ∀ v ∈ s.intake.lastV, v < 5) : s.inMotion = none := by
  rw [State.inMotion, Option.filter_eq_none_iff]
  exact fun v hv => by simpa using atRest v hv

theorem setup_recordsHeld (h : s.slotsInUse ≠ 0) :
    taken .setup s = replied s (transferBytes 4 2) .recordsHeld (BitVec.ofNat 16 s.slotsInUse) := by
  have used : (s.clock (transferBytes 4 2)).slotsInUse = s.slotsInUse := rfl
  simp only [taken, State.portSetup, used, if_pos (Nat.pos_of_ne_zero h)]
  exact respond_clock s _ _ _

theorem setup_inMotion (h : s.slotsInUse = 0) {v : Nat} (last : v ∈ s.intake.lastV) (moving : 5 ≤ v) :
    taken .setup s = replied s (transferBytes 4 2) .inMotion (BitVec.ofNat 16 v) := by
  have used : ¬ 0 < (s.clock (transferBytes 4 2)).slotsInUse := Nat.not_lt.2 h.le
  have motion : (s.clock (transferBytes 4 2)).inMotion = some v := by
    simp [State.inMotion, Option.mem_def.1 last, moving]
  simp only [taken, State.portSetup, if_neg used, motion]
  exact respond_clock s _ _ _

theorem setup_accepted (h : s.slotsInUse = 0) (atRest : ∀ v ∈ s.intake.lastV, v < 5) :
    taken .setup s = replied (if s.ctl.mode = .setup then s else s.enterSetup) (transferBytes 4 2) .ok 0 := by
  have used : ¬ 0 < (s.clock (transferBytes 4 2)).slotsInUse := Nat.not_lt.2 h.le
  have motion : (s.clock (transferBytes 4 2)).inMotion = none := inMotion_eq_none (s := s) atRest
  simp only [taken, State.portSetup, if_neg used, motion]
  by_cases mode : s.ctl.mode = .setup
  · rw [if_pos mode, if_pos (show (s.clock (transferBytes 4 2)).ctl.mode = .setup from mode)]
    exact respond_clock s _ _ _
  · rw [if_neg mode, if_neg (show ¬ (s.clock (transferBytes 4 2)).ctl.mode = .setup from mode)]
    exact respond_clock s.enterSetup _ _ _

/-! ## The form of a transfer (R160, R182) -/

theorem decodeTransfer_transferBytes (op : Byte) (d : Half) (more : List Byte) :
    decodeTransfer (transferBytes op d ++ more) = match op.toNat with
      | 1 => .ok (.select d)
      | 2 => .ok (.read d)
      | 3 => .ok (.write d)
      | 4 => if d = 1 then .ok .run else if d = 2 then .ok .setup else .ok (.unknownCommand d)
      | _ => .error .badOperation := by
  have data : halfAt (transferBytes op d ++ more) 1 = d := by
    show (d >>> 8).setWidth 8 ++ d.setWidth 8 = d
    have bound := d.isLt
    apply BitVec.eq_of_toNat_eq
    rw [toNat_append_eq_add, BitVec.toNat_setWidth, BitVec.toNat_setWidth, BitVec.toNat_ushiftRight, Nat.shiftRight_eq_div_pow]
    omega
  have long : ¬ (transferBytes op d ++ more).length < 4 := by simp [transferBytes_length]
  have check : ¬ byteAt (transferBytes op d ++ more) 3 ≠ checkByte (byteAt (transferBytes op d ++ more) 0)
      (byteAt (transferBytes op d ++ more) 1) (byteAt (transferBytes op d ++ more) 2) := not_not.2 rfl
  unfold decodeTransfer
  rw [if_neg long, if_neg check, data]
  exact rfl

/-- What the form tests find of bytes that fail one (R160). -/
theorem decodeTransfer_framing {bytes : List Byte} (short : bytes.length < 4) : decodeTransfer bytes = .error .framing :=
  if_pos short

theorem decodeTransfer_badCheck {bytes : List Byte} (long : 4 ≤ bytes.length)
    (check : byteAt bytes 3 ≠ ~~~ (byteAt bytes 0 ^^^ byteAt bytes 1 ^^^ byteAt bytes 2)) :
    decodeTransfer bytes = .error .badCheck :=
  (if_neg (Nat.not_lt.2 long)).trans (if_pos check)

theorem decodeTransfer_badOperation {bytes : List Byte} (long : 4 ≤ bytes.length)
    (check : byteAt bytes 3 = ~~~ (byteAt bytes 0 ^^^ byteAt bytes 1 ^^^ byteAt bytes 2))
    (operation : byteAt bytes 0 = 0 ∨ 4 < (byteAt bytes 0).toNat) : decodeTransfer bytes = .error .badOperation := by
  refine (if_neg (Nat.not_lt.2 long)).trans ((if_neg (not_not.2 check)).trans ?_)
  have other : (byteAt bytes 0).toNat = 0 ∨ 4 < (byteAt bytes 0).toNat := operation.imp_left fun e => by rw [e]; rfl
  split
  · omega
  · omega
  · omega
  · omega
  · rfl

theorem refused_on_form {bytes : List Byte} {e : FormError} (refused : decodeTransfer bytes = .error e) (s : State) :
    ∃ (v : Half) (k : Nat),
      taken (.transferRefusedOnForm bytes) s = { replied s bytes (formStatus e) v with freeCount := k } := by
  have input : decodeTransfer (s.clock bytes).port.input = .error e := refused
  simp only [taken, State.takeTransfer, input]
  exact respondFree_clock s bytes _

end Sys2Proof.Machine

namespace Sys2Proof.Proofs
open Sys2Proof.Machine Sys2Proof.Claims

/-- Settles O46: the index map names its indexes, the live values are read off their definitions. -/
theorem selectAndRead : Obligations.SelectAndRead := by
  unfold Obligations.SelectAndRead
  intro s x running
  rw [exec_running rfl running, exec_running rfl running]
  obtain ⟨bitRunning, bitWarn, bits⟩ := liveValue_dutyBits s
  refine ⟨fun i named => congrArg _ (select_named named s), fun missing => congrArg _ (select_missing missing s),
    fun none => congrArg _ (read_unselected none x), fun i some => congrArg _ (read_selected some x),
    fun l some => congrArg _ (read_selected some x), liveValue_mode s, liveValue_resetCause s, liveValue_settingsValid s,
    toNat_half (slotsInUse_lt s), toNat_half, toNat_half, fun j => liveValue_unset, fun j a => liveValue_temperature,
    fun saturated => toNat_half ?_, bitRunning, bitWarn, bits, liveValue_passCount s, fun bound => toNat_half ?_⟩ <;> omega

/-- Settles O47: the tests in their order, and the ranges row by row. -/
theorem writeOutcome : Obligations.WriteOutcome := by
  unfold Obligations.WriteOutcome
  intro s x running
  rw [exec_running rfl running]
  refine ⟨fun none => congrArg _ (write_unselected none x), fun l some => congrArg _ (write_live some x),
    fun i some => ?_, fun i r mem index => inRange_iff_admits mem index x⟩
  rw [write_setting some x]
  refine ⟨fun mode => ?_, fun mode range => ?_, fun mode range => ?_⟩
  · rw [if_pos mode]
  · rw [if_neg (not_not.2 mode), if_pos range]
  · rw [if_neg (not_not.2 mode), if_neg (by simp [range])]

/-- Settles O48: the map is searched for each of its numbers, the rows go with the settings. -/
theorem indexMapAndTransfers : Obligations.IndexMapAndTransfers := by
  unfold Obligations.IndexMapAndTransfers
  refine ⟨PortIndex.ofCode_code, fun t i => ?_, fun t r mem => ?_, mem_liveRows_iff, fun i j => PortIndex.code_injective,
    fun t i j x => ⟨t.get_set_same i x, t.get_set_ne x⟩, fun d more => ?_⟩
  · obtain ⟨r, mem, index, field, -⟩ := exists_row t i
    exact ⟨r, mem, index, field⟩
  · obtain ⟨i, index, field, -⟩ := exists_setting t mem
    exact ⟨i, index, field⟩
  · have read := fun op d => decodeTransfer_transferBytes op d more
    refine ⟨read 1 d, read 2 d, read 3 d, read 4 1, read 4 2, fun run setup => (read 4 d).trans ?_⟩
    exact (if_neg run).trans (if_neg setup)

/-- Settles O49: the checks in their order. -/
theorem runChecks : Obligations.RunChecks := by
  unfold Obligations.RunChecks
  intro t
  have exhaustPasses (all : ∀ k : Fin 17, t.stage1Points[k].toNat ≤ t.stage2Points[k].toNat) : exhaustFault t = none :=
    (exhaustFault_eq_none_iff t).2 all
  refine ⟨?_, fun axles => ?_, fun axles split => ?_, fun axles split retarder => ?_, fun axles split retarder fade => ?_,
    fun k axles split retarder fade fault first => ?_, fun m axles split retarder fade exhaust fault first => ?_⟩
  · rw [inconsistency_eq_none_iff, exhaustFault_eq_none_iff, nodeFault_eq_none_iff]
    exact and_congr_right fun axles => by rw [splitSum_eq axles]
  · exact if_pos (not_not.1 ((axles_iff t).not.2 axles))
  · rw [← splitSum_eq axles] at split
    exact (if_neg ((axles_iff t).2 axles)).trans (if_pos split)
  · rw [← splitSum_eq axles] at split
    exact (if_neg ((axles_iff t).2 axles)).trans <| (if_neg (not_not.2 split)).trans (if_pos (not_lt.1 retarder))
  · rw [← splitSum_eq axles] at split
    exact (if_neg ((axles_iff t).2 axles)).trans <| (if_neg (not_not.2 split)).trans <|
      (if_neg (not_le.2 retarder)).trans (if_pos (not_lt.1 fade))
  · rw [← splitSum_eq axles] at split
    exact (inconsistency_of_image axles split retarder fade).1 k (exhaustFault_eq_some fault first)
  · rw [← splitSum_eq axles] at split
    rw [(inconsistency_of_image axles split retarder fade).2 (exhaustPasses exhaust), nodeFault_eq_some fault first]
    rfl

/-- Settles O50. -/
theorem runOutcome : Obligations.RunOutcome := by
  unfold Obligations.RunOutcome
  intro s running
  rw [exec_running rfl running]
  exact ⟨fun mode => congrArg _ (run_refused mode), fun group item mode failed => congrArg _ (run_inconsistent mode failed),
    fun mode passed => congrArg _ (run_accepted mode passed)⟩

/-- Settles O51. -/
theorem setupOutcome : Obligations.SetupOutcome := by
  unfold Obligations.SetupOutcome
  intro s running
  rw [exec_running rfl running]
  refine ⟨fun held => congrArg _ (setup_recordsHeld held), fun v last free moving => congrArg _ (setup_inMotion free last moving),
    fun free atRest mode => ?_, fun free atRest mode => ?_⟩
  · rw [setup_accepted free atRest, if_pos mode]
  · rw [setup_accepted free atRest, if_neg mode]
    rfl

/-- Settles O52: each form test refuses its bytes, an unknown code reaches no command. -/
theorem transferRefused : Obligations.TransferRefused := by
  unfold Obligations.TransferRefused
  refine ⟨by decide, fun r => ⟨_, _, _, r.bytes_eq, ?_, ?_⟩, fun s running =>
    ⟨fun bytes st refused => ?_, fun code run setup => ?_⟩⟩
  · cases r.status <;> decide
  · have bound := r.value.isLt
    simp only [BitVec.toNat_setWidth, BitVec.toNat_ushiftRight, Nat.shiftRight_eq_div_pow]
    omega
  · rw [exec_running rfl running]
    obtain ⟨short, rfl⟩ | ⟨long, check, rfl⟩ | ⟨long, check, operation, rfl⟩ := refused
    · exact (refused_on_form (decodeTransfer_framing short) s).imp fun v => Exists.imp fun k => congrArg _
    · exact (refused_on_form (decodeTransfer_badCheck long check) s).imp fun v => Exists.imp fun k => congrArg _
    · exact (refused_on_form (decodeTransfer_badOperation long check operation) s).imp fun v => Exists.imp fun k => congrArg _
  · rw [exec_running rfl running]
    simp only [taken, State.portCommand, if_neg run, if_neg setup]
    exact (respondFree_clock s _ _).imp fun v => Exists.imp fun k => congrArg _

/-- Settles O45: the four cases of run state and condition. -/
theorem dutyTimerUpdate : Obligations.DutyTimerUpdate := by
  unfold Obligations.DutyTimerUpdate
  intro d cond dt threshold
  rcases d with ⟨running, count, warn⟩
  refine ⟨?_, ?_, ?_, ?_, by simp [DutyTimer.update, dutyWarn]⟩
  · rintro rfl rfl
    exact ⟨rfl, rfl⟩
  · rintro rfl rfl
    exact ⟨rfl, fun below => min_eq_left below, fun above => min_eq_right above.le⟩
  · rintro rfl rfl
    exact ⟨rfl, rfl⟩
  · rintro rfl rfl
    exact ⟨rfl, rfl⟩

end Sys2Proof.Proofs
end

section
/-! PROOF. The answers, the latched qualifiers and the checks of the messages, in the words of the statements (R27, R29 to R48). -/

namespace Sys2Proof.Machine
open Sys2Proof.Claims

variable {s : State} {n : Node} {hf : HandleField} {data : List Byte} {i : SlotId} {r : Record} {c : RecClass}

/-! ## Answers (R48, R176) -/

theorem State.slotBytes_eq (s : State) (slot : Option SlotId) : s.slotBytes slot = aboutStanding s slot := by
  cases slot <;> rfl

theorem State.slotBytes_some (hr : s.record i = some r) :
    s.slotBytes (some i) = about i (some r.state) (s.slot i).version r.cover := by
  have record : (s.slot i).record = some r := hr
  simp [State.slotBytes, about, hr, Slot.cover, record]

theorem Reply.flags_refusal (code : ResultCode) (slot : Option SlotId) : (Reply.refusal code slot).flags = 0 := rfl

theorem Reply.flags_plain (code : ResultCode) (slot : Option SlotId) :
    Reply.flags { code := code, clamped := false, kinds := [], slot := slot } = 0 := rfl

/-- An answer changes the queue alone, by the ANSWER frame of the statements. -/
theorem State.answer_joined (s : State) (k : MsgKind) (n : Node) (hf : HandleField) (r : Reply) :
    s.answer k n hf r
      = { s with vehicleTx := joined s.vehicleTx [Claims.answer s k n hf r.code r.flags (s.quals n).length (s.slotBytes r.slot)] } :=
  s.answer_eq k n hf r

theorem State.answer_refusal (s : State) (k : MsgKind) (n : Node) (hf : HandleField) (code : ResultCode) (slot : Option SlotId) :
    s.answer k n hf (.refusal code slot)
      = { s with vehicleTx := joined s.vehicleTx [Claims.answer s k n hf code 0 (s.quals n).length (aboutStanding s slot)] } := by
  rw [State.answer_joined, Reply.flags_refusal, State.slotBytes_eq]
  rfl

theorem State.emptyLatch_quals (s : State) (n : Node) : (s.emptyLatch n).quals n = [] := by
  simp [State.emptyLatch, State.quals, Latch.empty]

theorem State.report_joined (hr : s.record i = some r) (n : Node) :
    s.report n i = { s with vehicleTx := joined s.vehicleTx (Claims.report s n i r) } := by
  unfold State.report
  rw [hr]
  exact s.enqueue_eq _

/-! ## Records found by handle (R27) -/

theorem asHandle_eq_none : asHandle hf = none ↔ 4 ≤ hf.val := by
  unfold asHandle
  split_ifs with h
  · exact ⟨nofun, fun high => absurd h (Nat.not_lt.2 high)⟩
  · exact ⟨fun _ => Nat.not_lt.1 h, fun _ => rfl⟩

theorem asHandle_of_lt (h : hf.val < 4) : asHandle hf = some ⟨hf.val, h⟩ := dif_pos h

theorem handleSlot_record (found : handleSlot s n hf = some i) :
    ∃ r, s.record i = some r ∧ r.owner = n ∧ r.handle.val = hf.val := by
  have holds := List.find?_some found
  rcases hr : s.record i with _ | r
  · simp [hr] at holds
  · simp only [hr, Option.any_some, Bool.and_eq_true, beq_iff_eq] at holds
    exact ⟨r, rfl, holds⟩

theorem State.ownRecord_eq (h : hf.val < 4) :
    s.ownRecord n ⟨hf.val, h⟩ = (handleSlot s n hf).bind fun i => (s.record i).map fun r => (i, r) := by
  rw [State.ownRecord, s.findHandle_eq_handleSlot n ⟨hf.val, h⟩ hf rfl]

theorem State.ownRecord_of_handleSlot (h : hf.val < 4) (found : handleSlot s n hf = some i) (hr : s.record i = some r) :
    s.ownRecord n ⟨hf.val, h⟩ = some (i, r) := by
  rw [State.ownRecord_eq, found, Option.bind_some, hr, Option.map_some]

theorem isStale_eq (hr : s.record i = some r) : isStale s i = !r.live := by
  simp only [isStale, hr, Option.any_some, Record.live]
  cases r.state <;> rfl

theorem Record.live_iff (r : Record) : r.live = true ↔ r.state ≠ .stale := by simp [Record.live]

/-- The slot a byte names (R175). -/
theorem asSlot_eq (b : Byte) : asSlot b = (List.finRange 24).find? fun i => i.val == b.toNat := by
  unfold asSlot
  split_ifs with h
  · refine (find_finRange_eq_some (k := ⟨b.toNat, h⟩) (by simp) fun l hl => ?_).symm
    have below : l.val < b.toNat := hl
    simp [below.ne]
  · refine (List.find?_eq_none.2 fun l _ => ?_).symm
    have bound := l.isLt
    simp
    omega

theorem asSlot_of_val {b : Byte} (named : i.val = b.toNat) : asSlot b = some i := by
  unfold asSlot
  rw [dif_pos (named ▸ i.isLt)]
  exact congrArg some (Fin.ext named.symm)

theorem asSlot_some {b : Byte} (named : asSlot b = some i) : i.val = b.toNat := by
  unfold asSlot at named
  split_ifs at named
  cases named
  rfl

theorem State.namedSlot_eq_none {b : Byte} (free : ∀ i : SlotId, i.val = b.toNat → s.record i = none) : s.namedSlot b = none := by
  rw [State.namedSlot, Option.filter_eq_none_iff]
  intro i named
  simp [free i (asSlot_some named)]

theorem State.namedSlot_of_val {b : Byte} (named : i.val = b.toNat) (hr : s.record i = some r) : s.namedSlot b = some i := by
  simp [State.namedSlot, asSlot_of_val named, hr]

/-! ## Latched qualifiers (R46, R47) -/

/-- A set of axles lies among the configured ones when its mask is below 2 to their number. -/
theorem axleMask_bound (v k : Nat) : (v < 8 ∧ ∀ j : Fin 3, v.testBit j = true → j.val < k) ↔ v < 2 ^ min 3 k := by
  by_cases small : v < 8
  · rcases k with _ | _ | _ | k
    · interval_cases v <;> decide
    · interval_cases v <;> decide
    · interval_cases v <;> decide
    · have all : min 3 (k + 3) = 3 := min_eq_left (Nat.le_add_left 3 k)
      rw [all]
      exact ⟨fun _ => small, fun _ => ⟨small, fun j _ => j.isLt.trans_le (Nat.le_add_left 3 k)⟩⟩
  · have large : 2 ^ min 3 k ≤ 8 := Nat.pow_le_pow_right (n := 2) (by omega) (min_le_left 3 k)
    exact ⟨fun h => absurd h.1 small, fun h => absurd (h.trans_le large) small⟩

theorem Qualifier.validFor_eq (t : Settings) (c : RecClass) (q : Qualifier) : q.validFor t c = validQualifier t c q := by
  rcases q with ⟨kind, value⟩
  rw [Bool.eq_iff_iff]
  cases kind with
  | sources => simp [Qualifier.validFor, validQualifier]
  | axles =>
    simp only [Qualifier.validFor, validQualifier, decide_eq_true_eq, ← axleMask_bound, Bool.and_eq_true, List.all_eq_true]
    refine and_congr_right fun _ => forall_congr' fun j => ?_
    simp only [List.mem_finRange, forall_const, Settings.axleConfigured, Bool.or_eq_true, Bool.not_eq_true', decide_eq_true_eq,
      BitVec.getLsbD, ← Bool.not_eq_true, imp_iff_not_or]
  | onset =>
    have zero : value = 0 ↔ value.toNat = 0 := ⟨fun h => by rw [h]; rfl, fun h => BitVec.eq_of_toNat_eq h⟩
    simp only [Qualifier.validFor, validQualifier, decide_eq_true_eq, Bool.and_eq_true, Bool.or_eq_true, bne_iff_ne, beq_iff_eq,
      ne_eq, zero, and_assoc]
    refine and_congr_right fun _ => ?_
    by_cases collision : c = .collision
    · simp only [collision, or_true, and_true]
      omega
    · simp only [collision, or_false, and_false]
      omega
  | inhibit => simp [Qualifier.validFor, validQualifier, RecClass.intervention_iff]

theorem qualsValid_iff (t : Settings) (c : RecClass) (quals : List Qualifier) :
    qualsValid t c quals = true ↔ ¬ ∃ q ∈ quals, validQualifier t c q = false := by
  simp [qualsValid, Qualifier.validFor_eq]

theorem latched_cons (q : Qualifier) (qs : List Qualifier) (k : QualKind) :
    latched (q :: qs) k = if q.kind = k then some q.value else latched qs k := by
  unfold latched
  rw [List.find?_cons]
  by_cases same : q.kind = k
  · simp [same]
  · have other : (q.kind == k) = false := beq_eq_false_iff_ne.2 same
    simp only [other, if_neg same]

theorem latched_eq_none {quals : List Qualifier} {k : QualKind} (absent : k ∉ quals.map Qualifier.kind) :
    latched quals k = none := by
  unfold latched
  rw [Option.map_eq_none_iff, List.find?_eq_none]
  intro q mem
  simp only [beq_iff_eq]
  exact fun same => absent (same ▸ List.mem_map_of_mem mem)

theorem latched_isSome (quals : List Qualifier) (k : QualKind) :
    (latched quals k).isSome = decide (k ∈ quals.map Qualifier.kind) := by
  rw [Bool.eq_iff_iff]
  simp [latched]

/-- With one qualifier of a kind at most, their order does not matter (R44). -/
theorem foldl_qualified_eq {quals : List Qualifier} (nodup : (quals.map Qualifier.kind).Nodup) (r : Record) :
    quals.foldl Record.qualified r = withQualifiers r quals := by
  induction quals generalizing r with
  | nil => rfl
  | cons q qs ih =>
    rw [List.map_cons, List.nodup_cons] at nodup
    obtain ⟨fresh, rest⟩ := nodup
    have absent := latched_eq_none fresh
    rw [List.foldl_cons, ih rest]
    rcases q with ⟨kind, value⟩
    cases kind <;>
      · simp only at absent
        simp [withQualifiers, latched_cons, Record.qualified, absent]

theorem Reply.flags_eq (code : ResultCode) (clamped : Bool) (quals : List Qualifier) (slot : Option SlotId) :
    Reply.flags { code := code, clamped := clamped, kinds := quals.map Qualifier.kind, slot := slot }
      = flagsByte clamped quals := by
  simp only [Reply.flags, flagsByte, latched_isSome]

/-! ## The fields of OPEN and of the amendments -/

theorem clampForce_eq_zero (f : Half) : clampForce f = 0 ↔ f = 0 := by
  have zero : f.toNat = 0 ↔ f = 0 := ⟨fun h => BitVec.eq_of_toNat_eq h, fun h => by rw [h]; rfl⟩
  rw [← zero, clampForce]
  omega

theorem clampLimit_eq_none (l : Half) : clampLimit l = none ↔ l = 0xFFFF := by
  unfold clampLimit
  split_ifs with h
  · exact iff_of_true rfl h
  · exact iff_of_false nofun h

theorem carriedCompact_fitsClass (data : List Byte) (c : RecClass) :
    (carriedCompact data).fitsClass c = true ↔ (c = .stability → halfAt data 0 = 0) := by
  by_cases stability : c = .stability
  · simp [Carried.fitsClass, carriedCompact, stability, clampForce_eq_zero]
  · simp [Carried.fitsClass, carriedCompact, stability]

theorem carriedFull_fitsClass (row : ClassRow) (data : List Byte) (k : Nat) (c : RecClass) :
    (carriedFull row data k).fitsClass c = true ↔ fits c data k = true := by
  by_cases stability : c = .stability
  · simp [Carried.fitsClass, carriedFull, fits, stability, clampForce_eq_zero, clampLimit_eq_none]
  · simp [Carried.fitsClass, carriedFull, fits, stability, clampLimit_eq_none]

/-! ## The checks and the refusals tables -/

/-- The outcome of checks, from the row of a refusals table that fails. -/
def judged {α : Type} (refused : Refused) (plan : α) : Except Denied α :=
  match refused with
  | some (code, slot) => .error ⟨code, slot⟩
  | none => .ok plan

theorem judged_fields {α : Type} {x : Carried} {fit : Prop} [Decidable fit] (same : x.fitsClass c = true ↔ fit)
    (slot : Option SlotId) (plan : α) :
    (if !x.fitsClass c then .error ⟨.classField, slot⟩
      else if !qualsValid s.settings c (s.quals n) then .error ⟨.classField, slot⟩
      else .ok plan : Except Denied α) = judged (fieldsRefusal s n c fit slot) plan := by
  by_cases holds : fit
  · by_cases invalid : ∃ q ∈ s.quals n, validQualifier s.settings c q = false
    · have bad : qualsValid s.settings c (s.quals n) = false := by
        simpa using (qualsValid_iff s.settings c (s.quals n)).not.2 (not_not.2 invalid)
      simp [fieldsRefusal, same.2 holds, holds, bad, invalid, judged]
    · have good := (qualsValid_iff s.settings c (s.quals n)).2 invalid
      simp only [fieldsRefusal, same.2 holds, good, if_neg invalid, holds, not_true_eq_false]
      rfl
  · have bad : x.fitsClass c = false := by simpa using same.not.2 holds
    simp [fieldsRefusal, bad, holds, judged]

theorem State.amendFieldCheck_eq {x : Carried} {fit : Prop} [Decidable fit] (same : x.fitsClass c = true ↔ fit) :
    s.amendFieldCheck n i c x = judged (fieldsRefusal s n c fit (some i)) { slot := i, carried := x } :=
  judged_fields same (some i) _

/-- RENEW, RELEASE and the handle form of QUERY (R39, R40, R41). -/
theorem State.handleCheck_error {code : ResultCode} {slot : Option SlotId} (refused : handleRefusal s n hf = some (code, slot)) :
    s.handleCheck n hf = .error ⟨code, slot⟩ := by
  unfold handleRefusal at refused
  unfold State.handleCheck
  split_ifs at refused with mode high missing
  · cases refused
    rw [if_pos mode]
  · cases refused
    rw [if_neg mode, asHandle_eq_none.2 high]
  · cases refused
    rw [if_neg mode, asHandle_of_lt (Nat.not_le.1 high)]
    simp only [State.ownRecord_eq, missing, Option.bind_none]

theorem State.handleCheck_of_record (passed : handleRefusal s n hf = none) (found : handleSlot s n hf = some i)
    (hr : s.record i = some r) : s.handleCheck n hf = .ok (i, r) := by
  unfold handleRefusal at passed
  unfold State.handleCheck
  split_ifs at passed with mode high missing
  rw [if_neg mode, asHandle_of_lt (Nat.not_le.1 high)]
  simp only [State.ownRecord_of_handleSlot _ found hr]

/-- The fields that an AMEND carries, by the form its length selects (R29). -/
def amendCarried (t : Settings) (c : RecClass) (data : List Byte) : Carried :=
  if data.length < 5 then carriedCompact data else carriedFull (t.row c) data 0

/-- AMEND of either form on the record found (R36). -/
theorem amendChecks_of_record (mode : s.ctl.mode ≠ .setup) (low : hf.val < 4) (long : ¬ data.length < 2)
    (found : handleSlot s n hf = some i) (hr : s.record i = some r) :
    s.amendCheck n hf data
      = judged (amendRefusal s n hf data) { slot := i, carried := amendCarried s.settings r.cls data } := by
  unfold State.amendCheck amendRefusal
  rw [if_neg mode, if_neg mode, if_neg (Nat.not_le.2 low), if_neg long, asHandle_of_lt low, found, Option.bind_some, hr]
  simp only [if_neg long, State.ownRecord_of_handleSlot low found hr, Option.map_some, isStale_eq hr]
  by_cases short : data.length < 5
  · by_cases live : r.live = true
    · simp only [short, live, amendCarried, if_true, Bool.not_true, Bool.false_eq_true, if_false, and_false]
      exact State.amendFieldCheck_eq (carriedCompact_fitsClass data r.cls)
    · simp only [short, live, Bool.not_false, if_true, and_true]
      rfl
  · simp only [short, amendCarried, if_false, false_and]
    exact State.amendFieldCheck_eq (carriedFull_fitsClass _ data 0 r.cls)

theorem State.amendCheck_error {code : ResultCode} {slot : Option SlotId} (refused : amendRefusal s n hf data = some (code, slot)) :
    s.amendCheck n hf data = .error ⟨code, slot⟩ := by
  by_cases mode : s.ctl.mode = .setup
  · rw [amendRefusal, if_pos mode] at refused
    cases refused
    exact if_pos mode
  by_cases high : 4 ≤ hf.val
  · rw [amendRefusal, if_neg mode, if_pos high] at refused
    cases refused
    rw [State.amendCheck, if_neg mode, asHandle_eq_none.2 high]
  by_cases short : data.length < 2
  · rw [amendRefusal, if_neg mode, if_neg high, if_pos short] at refused
    cases refused
    rw [State.amendCheck, if_neg mode, asHandle_of_lt (Nat.not_le.1 high)]
    exact if_pos short
  rcases found : handleSlot s n hf with _ | i
  · rw [amendRefusal, if_neg mode, if_neg high, if_neg short, found] at refused
    cases refused
    rw [State.amendCheck, if_neg mode, asHandle_of_lt (Nat.not_le.1 high)]
    simp only [if_neg short, State.ownRecord_eq, found, Option.bind_none]
  · obtain ⟨r, hr, -, -⟩ := handleSlot_record found
    rw [amendChecks_of_record mode (Nat.not_le.1 high) short found hr, refused]
    rfl

theorem amendRefusal_none (passed : amendRefusal s n hf data = none) :
    s.ctl.mode ≠ .setup ∧ hf.val < 4 ∧ ¬ data.length < 2 := by
  unfold amendRefusal at passed
  split_ifs at passed with mode high short <;> exact ⟨mode, Nat.not_le.1 high, short⟩

theorem State.amendCheck_of_record (passed : amendRefusal s n hf data = none) (found : handleSlot s n hf = some i)
    (hr : s.record i = some r) :
    s.amendCheck n hf data = .ok { slot := i, carried := amendCarried s.settings r.cls data } := by
  obtain ⟨mode, low, long⟩ := amendRefusal_none passed
  rw [amendChecks_of_record mode low long found hr, passed]
  rfl

/-- The record that a compact AMEND has found is not STALE (R36). -/
theorem live_of_compact (passed : amendRefusal s n hf data = none) (compact : data.length < 5)
    (found : handleSlot s n hf = some i) (hr : s.record i = some r) : r.live = true := by
  obtain ⟨mode, low, long⟩ := amendRefusal_none passed
  rw [amendRefusal, if_neg mode, if_neg (Nat.not_le.2 low), if_neg long, found, Option.bind_some, hr, Option.map_some] at passed
  simp only [isStale_eq hr, compact, true_and] at passed
  split_ifs at passed with stale
  simpa using stale

end Sys2Proof.Machine
end

section
/-! PROOF. The refusals of the messages, and RENEW, QUERY, RESERVE and QUALIFY (R30, R33, R36, R38 to R45). -/

namespace Sys2Proof.Machine
open Sys2Proof.Claims

variable {s : State} {n : Node} {hf : HandleField} {data : List Byte} {i : SlotId} {r : Record} {c : RecClass}
  {code : ResultCode} {slot : Option SlotId}

/-! ## OPEN (R33) -/

/-- The checks of an OPEN that has passed the ones on its handle and length and carries class c. -/
theorem State.openCheck_of_class (mode : s.ctl.mode ≠ .setup) (low : hf.val < 4) (long : ¬ data.length < 7)
    (cls : RecClass.ofCode (byteAt data 0).toNat = some c) :
    s.openCheck n hf data =
      if s.settings.classRights[n].getLsbD c.code = false then .error ⟨.noRights, none⟩
      else if ∃ i ∈ handleSlot s n hf, isStale s i = false then .error ⟨.handleInUse, handleSlot s n hf⟩
      else match slotForOpen s (handleSlot s n hf) with
        | none => .error ⟨.tableFull, none⟩
        | some i =>
          judged (fieldsRefusal s n c (fits c data 2 = true) (handleSlot s n hf))
            { replaced := handleSlot s n hf, slot := i, clamped := (carriedFull (s.settings.row c) data 2).clamped
              record := newRecord s.settings n ⟨hf.val, low⟩ c ((byteAt data 1).getLsbD 0)
                (carriedFull (s.settings.row c) data 2) (s.quals n) } := by
  have old : s.findHandle n ⟨hf.val, low⟩ = handleSlot s n hf := s.findHandle_eq_handleSlot _ _ hf rfl
  have inUse : ((handleSlot s n hf).any fun i => (s.record i).any Record.live) = true
      ↔ ∃ i ∈ handleSlot s n hf, isStale s i = false := by
    rcases found : handleSlot s n hf with _ | i
    · simp
    · obtain ⟨r, hr, -, -⟩ := handleSlot_record found
      simp [hr, isStale_eq hr]
  have slots : s.openSlot (handleSlot s n hf) = slotForOpen s (handleSlot s n hf) := rfl
  unfold State.openCheck
  rw [if_neg mode, asHandle_of_lt low]
  simp only [if_neg long, openClass, cls, old, slots]
  by_cases rights : s.settings.classRights[n].getLsbD c.code = false
  · simp only [Option.filter, rightsHold, rights, if_true, Bool.false_eq_true, if_false]
  · have held : s.settings.classRights[n].getLsbD c.code = true := by simpa using rights
    simp only [Option.filter, rightsHold, held, if_true, Bool.true_eq_false, if_false]
    by_cases used : ∃ i ∈ handleSlot s n hf, isStale s i = false
    · rw [if_pos used, if_pos (inUse.2 used)]
    · rw [if_neg used, if_neg (inUse.not.2 used)]
      rcases slotForOpen s (handleSlot s n hf) with _ | i
      · rfl
      · exact judged_fields (carriedFull_fitsClass _ data 2 c) _ _

theorem slotForOpen_eq_none {old : Option SlotId} :
    slotForOpen s old = none ↔ old = none ∧ ∀ i : SlotId, (s.record i).isSome = true := by
  have each : slotForOpen s old = none ↔ ∀ i : SlotId, (s.record i).isSome = true ∧ old ≠ some i := by
    simp [slotForOpen, List.find?_eq_none, Option.isSome_iff_ne_none]
  rw [each]
  rcases old with _ | k
  · simp
  · simp only [reduceCtorEq, false_and, iff_false]
    exact fun all => (all k).2 rfl

theorem State.openCheck_error (refused : openRefusal s n hf data = some (code, slot)) :
    s.openCheck n hf data = .error ⟨code, slot⟩ := by
  by_cases mode : s.ctl.mode = .setup
  · rw [openRefusal, if_pos mode] at refused
    cases refused
    exact if_pos mode
  by_cases high : 4 ≤ hf.val
  · rw [openRefusal, if_neg mode, if_pos high] at refused
    cases refused
    rw [State.openCheck, if_neg mode, asHandle_eq_none.2 high]
  by_cases short : data.length < 7
  · rw [openRefusal, if_neg mode, if_neg high, if_pos short] at refused
    cases refused
    rw [State.openCheck, if_neg mode, asHandle_of_lt (Nat.not_le.1 high)]
    exact if_pos short
  simp only [openRefusal, if_neg mode, if_neg high, if_neg short] at refused
  rcases cls : RecClass.ofCode (byteAt data 0).toNat with _ | c
  · rw [cls] at refused
    cases refused
    rw [State.openCheck, if_neg mode, asHandle_of_lt (Nat.not_le.1 high)]
    simp only [if_neg short, openClass, cls, Option.filter_none]
  · rw [State.openCheck_of_class mode (Nat.not_le.1 high) short cls]
    simp only [cls, ← slotForOpen_eq_none] at refused
    split_ifs at refused with rights used full
    · cases refused
      exact if_pos rights
    · cases refused
      rw [if_neg rights, if_pos used]
    · cases refused
      rw [if_neg rights, if_neg used, full]
    · rw [if_neg rights, if_neg used]
      rcases free : slotForOpen s (handleSlot s n hf) with _ | i
      · exact absurd free full
      · simp only [refused, judged]

/-- The plan of an OPEN that passes its table. -/
theorem State.openCheck_of_class_slot (passed : openRefusal s n hf data = none) {h : Fin 4} (handle : hf.val = h.val)
    (cls : RecClass.ofCode (byteAt data 0).toNat = some c) (free : slotForOpen s (handleSlot s n hf) = some i) :
    s.openCheck n hf data = .ok
      { replaced := handleSlot s n hf, slot := i, clamped := (carriedFull (s.settings.row c) data 2).clamped
        record := newRecord s.settings n h c ((byteAt data 1).getLsbD 0) (carriedFull (s.settings.row c) data 2) (s.quals n) }
    ∧ ∀ k ∈ handleSlot s n hf, isStale s k = true := by
  unfold openRefusal at passed
  simp only [cls] at passed
  split_ifs at passed with mode high short rights used full
  rw [State.openCheck_of_class mode (Nat.not_le.1 high) short cls, if_neg rights, if_neg used, free]
  simp only [passed, judged]
  have same : (⟨hf.val, Nat.not_le.1 high⟩ : Fin 4) = h := Fin.ext handle
  rw [same]
  exact ⟨rfl, fun k found => by simpa using not_exists.1 used k |> (not_and.1 · found)⟩

/-! ## AMEND_IF (R38) -/

theorem State.reservationTest_of_record {b v : Byte} (named : asSlot b = some i) (hr : s.record i = some r) :
    s.reservationTest n b v
      = if s.monitors[n].valid = false ∨ s.monitors[n].slot ≠ i ∨ s.monitors[n].version ≠ v
          ∨ isStale s i = true ∨ (s.slot i).version ≠ v then none else some (i, r) := by
  unfold State.reservationTest
  rw [named]
  simp only [hr, isStale_eq hr]
  by_cases lost : s.monitors[n].valid = false ∨ s.monitors[n].slot ≠ i ∨ s.monitors[n].version ≠ v
      ∨ (!r.live) = true ∨ (s.slot i).version ≠ v
  · rw [if_pos lost, if_neg]
    simp only [Bool.and_eq_true, beq_iff_eq]
    rintro ⟨⟨⟨⟨valid, slot⟩, version⟩, live⟩, current⟩
    rcases lost with h | h | h | h | h
    · exact Bool.false_ne_true (h.symm.trans valid)
    · exact h slot
    · exact h version
    · exact absurd live (by simpa using h)
    · exact h current
  · rw [if_neg lost, if_pos]
    simpa [not_or, and_assoc] using lost

/-- The checks of an AMEND_IF whose slot byte names the slot of a record. -/
theorem amendIfChecks_of_record (mode : s.ctl.mode ≠ .setup) (long : ¬ data.length < 7)
    (named : asSlot (byteAt data 0) = some i) (hr : s.record i = some r) :
    s.amendIfCheck n data
      = judged (amendIfRefusal s n data) { slot := i, carried := carriedFull (s.settings.row r.cls) data 2 } := by
  have holds : (some i).filter (fun i => (s.record i).isSome) = some i := by simp [hr]
  have slot : s.namedSlot (byteAt data 0) = some i := by rw [State.namedSlot, named, holds]
  unfold State.amendIfCheck amendIfRefusal
  rw [if_neg mode, if_neg mode, if_neg long, if_neg long, State.reservationTest_of_record named hr, ← asSlot_eq, named, slot]
  rw [holds]
  simp only [Option.bind_some, hr, Option.map_some]
  split_ifs with lost
  · rfl
  · exact State.amendFieldCheck_eq (carriedFull_fitsClass _ data 2 r.cls)

theorem State.amendIfCheck_error (refused : amendIfRefusal s n data = some (code, slot)) :
    s.amendIfCheck n data = .error ⟨code, slot⟩ := by
  by_cases mode : s.ctl.mode = .setup
  · rw [amendIfRefusal, if_pos mode] at refused
    cases refused
    exact if_pos mode
  by_cases short : data.length < 7
  · rw [amendIfRefusal, if_neg mode, if_pos short] at refused
    cases refused
    rw [State.amendIfCheck, if_neg mode, if_pos short]
  have lost (none : s.namedSlot (byteAt data 0) = none) (test : s.reservationTest n (byteAt data 0) (byteAt data 1) = .none) :
      s.amendIfCheck n data = .error ⟨code, slot⟩ := by
    have held : ((List.finRange 24).find? fun i => i.val == (byteAt data 0).toNat).filter (fun i => (s.record i).isSome)
        = .none := by rw [← asSlot_eq]; exact none
    rw [amendIfRefusal, if_neg mode, if_neg short, held] at refused
    cases refused
    rw [State.amendIfCheck, if_neg mode, if_neg short, test, none]
  rcases named : asSlot (byteAt data 0) with _ | i
  · refine lost ?_ ?_
    · rw [State.namedSlot, named, Option.filter_none]
    · rw [State.reservationTest, named]
  · rcases hr : s.record i with _ | r
    · refine lost ?_ ?_
      · simp [State.namedSlot, named, hr]
      · rw [State.reservationTest, named]
        simp only [hr]
    · rw [amendIfChecks_of_record mode short named hr, refused]
      rfl

theorem State.amendIfCheck_of_record (passed : amendIfRefusal s n data = none) (named : i.val = (byteAt data 0).toNat)
    (hr : s.record i = some r) :
    s.amendIfCheck n data = .ok { slot := i, carried := carriedFull (s.settings.row r.cls) data 2 } := by
  have checked := passed
  have heads : s.ctl.mode ≠ .setup ∧ ¬ data.length < 7 := by
    unfold amendIfRefusal at passed
    split_ifs at passed with mode short
    exact ⟨mode, short⟩
  rw [amendIfChecks_of_record heads.1 heads.2 (asSlot_of_val named) hr, checked]
  rfl

/-! ## QUERY and RESERVE (R41, R42) -/

theorem State.reserveCheck_of_record (mode : s.ctl.mode ≠ .setup) (long : ¬ data.length < 1)
    (named : asSlot (byteAt data 0) = some i) (hr : s.record i = some r) :
    s.reserveCheck n data = judged (reserveRefusal s n data) i := by
  unfold State.reserveCheck reserveRefusal
  rw [if_neg mode, if_neg mode, if_neg long, if_neg long, ← asSlot_eq, named]
  simp only [hr]
  by_cases stale : r.state = .stale
  · rw [if_pos stale, if_pos (by simp [Record.live, stale])]
    rfl
  rw [if_neg stale, if_neg (by simp [Record.live, stale])]
  by_cases own : r.owner = n
  · rw [if_pos own, if_neg (fun h => h.1 own), if_neg (fun h => h.1 own)]
    rfl
  rw [if_neg own]
  by_cases shared : r.shared = false
  · rw [if_pos (by simp [shared]), if_pos ⟨own, shared⟩]
    rfl
  rw [if_neg (by simpa using shared), if_neg (c := r.owner ≠ n ∧ r.shared = false) fun h => shared h.2]
  by_cases rights : s.settings.shareRights[n].getLsbD r.cls.code = false
  · rw [if_pos (by simpa [rightsHold] using rights), if_pos ⟨own, rights⟩]
    rfl
  · rw [if_neg (by simpa [rightsHold] using rights), if_neg fun h => rights h.2]
    rfl

theorem State.reserveCheck_error (refused : reserveRefusal s n data = some (code, slot)) :
    s.reserveCheck n data = .error ⟨code, slot⟩ := by
  by_cases mode : s.ctl.mode = .setup
  · rw [reserveRefusal, if_pos mode] at refused
    cases refused
    exact if_pos mode
  by_cases short : data.length < 1
  · rw [reserveRefusal, if_neg mode, if_pos short] at refused
    cases refused
    rw [State.reserveCheck, if_neg mode, if_pos short]
  rcases named : asSlot (byteAt data 0) with _ | i
  · rw [reserveRefusal, if_neg mode, if_neg short, ← asSlot_eq, named] at refused
    cases refused
    rw [State.reserveCheck, if_neg mode, if_neg short, named]
  · rcases hr : s.record i with _ | r
    · rw [reserveRefusal, if_neg mode, if_neg short, ← asSlot_eq, named] at refused
      simp only [hr] at refused
      cases refused
      rw [State.reserveCheck, if_neg mode, if_neg short, named]
      simp only [hr]
    · rw [State.reserveCheck_of_record mode short named hr, refused]
      rfl

theorem State.reserveCheck_of_slot (passed : reserveRefusal s n data = none) (named : i.val = (byteAt data 0).toNat)
    (hr : s.record i = some r) : s.reserveCheck n data = .ok i := by
  have checked := passed
  have heads : s.ctl.mode ≠ .setup ∧ ¬ data.length < 1 := by
    unfold reserveRefusal at passed
    split_ifs at passed with mode short
    exact ⟨mode, short⟩
  rw [State.reserveCheck_of_record heads.1 heads.2 (asSlot_of_val named) hr, checked]
  rfl

theorem State.queryCheck_handle (s : State) (n : Node) (hf : HandleField) :
    s.queryCheck n hf [] = (s.handleCheck n hf).map Prod.fst := by
  unfold State.queryCheck
  rw [if_pos (show ([] : List Byte).length = 0 from rfl)]
  rcases s.handleCheck n hf with d | ⟨i, r⟩ <;> rfl

theorem State.queryCheck_slot (some : data ≠ []) (mode : s.ctl.mode ≠ .setup) (named : i.val = (byteAt data 0).toNat)
    (hr : s.record i = .some r) : s.queryCheck n hf data = .ok i := by
  rw [State.queryCheck, if_neg (fun e => some (List.length_eq_zero_iff.1 e)), if_neg mode, State.namedSlot_of_val named hr]

/-! ## QUALIFY (R43) -/

theorem State.setLatch_quals (s : State) (n : Node) (l : Latch) :
    State.quals { s with latches := s.latches.set n l } n = l.quals := by
  simp [State.quals]

theorem State.qualifyCheck_eq (s : State) (n : Node) (data : List Byte) :
    (qualifyResult s n data ≠ .accepted → s.qualifyCheck n data = .error (qualifyResult s n data))
    ∧ ∀ k, qualifyResult s n data = .accepted → QualKind.ofCode (byteAt data 0).toNat = some k →
        s.qualifyCheck n data = .ok { kind := k, value := halfAt data 1 } := by
  unfold qualifyResult State.qualifyCheck
  by_cases mode : s.ctl.mode = .setup
  · simp [mode]
  by_cases short : data.length < 3
  · simp [mode, short]
  rcases kind : QualKind.ofCode (byteAt data 0).toNat with _ | k
  · simp [mode, short]
  have same : (latched (s.quals n) k).isSome = (s.quals n).any fun q => q.kind == k := by
    rw [latched_isSome, Bool.eq_iff_iff]
    simp
  simp only [mode, short, if_false, same]
  split_ifs with shadowed full
  · simp
  · simp
  · simp

end Sys2Proof.Machine

namespace Sys2Proof.Proofs
open Sys2Proof.Machine Sys2Proof.Claims

/-- Settles O7: the checks of the model fail in the order of the table. -/
theorem openRefused : Obligations.OpenRefused := by
  unfold Obligations.OpenRefused
  refine ⟨Qualifier.validFor_eq, fun s n hf data code slot running refused => ?_⟩
  rw [exec_running rfl running]
  simp only [taken, State.takeOpen, State.openCheck_error refused, State.answer_refusal, State.emptyLatch_quals]
  rfl

/-- Settles O11: the form follows the length, not the command. -/
theorem amendRefused : Obligations.AmendRefused := by
  unfold Obligations.AmendRefused
  intro s n hf data code slot running refused c form
  have answered : s.takeAmend n hf data = { s with
      latches := s.latches.set n { quals := [], hold := none }
      vehicleTx := joined s.vehicleTx [answer s .amend n hf code 0 0 (aboutStanding s slot)] } := by
    simp only [State.takeAmend, State.amendCheck_error refused, State.answer_refusal, State.emptyLatch_quals]
    rfl
  rcases form with rfl | rfl
  · exact (exec_running rfl running).trans (congrArg _ answered)
  · exact (exec_running rfl running).trans (congrArg _ answered)

/-- Settles O13: the checks of the model fail in the order of the table. -/
theorem amendIfRefused : Obligations.AmendIfRefused := by
  unfold Obligations.AmendIfRefused
  intro s n hf data code slot running refused
  have quals : ((s.emptyLatch n).clearMonitor n).quals n = [] := s.emptyLatch_quals n
  rw [exec_running rfl running]
  simp only [taken, State.takeAmendIf, State.amendIfCheck_error refused, State.answer_refusal, quals]
  rfl

/-- Settles O16. -/
theorem renewApplied : Obligations.RenewApplied := by
  unfold Obligations.RenewApplied
  intro s n hf data i r running passed found hr live
  have renewed : s.renewSlot i = s.putSlot i
      { s.slot i with record := some r.promote, countdown := some (10 * r.promote.leasePeriod) } := by
    rw [State.renewSlot, hr]
  have record : (s.renewSlot i).record i = some r.promote := by rw [renewed, State.putSlot_record, if_pos rfl]
  have version : ((s.renewSlot i).slot i).version = (s.slot i).version := by rw [renewed, State.putSlot_slot, if_pos rfl]
  rw [exec_running rfl running]
  simp only [taken, State.takeRenew, State.handleCheck_of_record passed found hr, (Record.live_iff r).2 live, if_true,
    State.answer_joined, State.slotBytes_some record, version, Reply.flags_plain]
  rw [renewed]
  rfl

/-- Settles O18: the handle form and the slot form find the slot, the report does not depend on the form. -/
theorem queryReported : Obligations.QueryReported := by
  unfold Obligations.QueryReported
  intro s n hf data i r running hr form
  have checked : s.queryCheck n hf data = .ok i := by
    obtain ⟨rfl, passed, found⟩ | ⟨some, mode, named⟩ := form
    · rw [State.queryCheck_handle, State.handleCheck_of_record passed found hr]
      rfl
    · exact State.queryCheck_slot some mode named hr
  rw [exec_running rfl running]
  simp only [taken, State.takeQuery, checked, State.report_joined hr]

/-- Settles O19: each refusal answers by its code and slot. -/
theorem lookupRefused : Obligations.LookupRefused := by
  unfold Obligations.LookupRefused
  intro s n hf data running
  refine ⟨fun code slot refused => ⟨?_, ?_, ?_⟩, fun i passed found stale => ?_, fun some mode => ?_, fun some mode free => ?_⟩
  · rw [exec_running rfl running]
    simp only [taken, State.takeRenew, State.handleCheck_error refused, State.answer_refusal]
  · rw [exec_running rfl running]
    simp only [taken, State.takeRelease, State.handleCheck_error refused, State.answer_refusal]
  · have checked : s.queryCheck n hf [] = .error ⟨code, slot⟩ := by
      rw [State.queryCheck_handle, State.handleCheck_error refused]
      rfl
    rw [exec_running rfl running]
    simp only [taken, State.takeQuery, checked, State.answer_refusal]
  · obtain ⟨r, hr, -, -⟩ := handleSlot_record found
    have dead : r.live = false := by simpa [isStale_eq hr] using stale
    rw [exec_running rfl running]
    simp only [taken, State.takeRenew, State.handleCheck_of_record passed found hr, dead, Bool.false_eq_true, if_false,
      State.answer_refusal]
  · have checked : s.queryCheck n hf data = .error ⟨.notRunning, none⟩ := by
      rw [State.queryCheck, if_neg (fun e => some (List.length_eq_zero_iff.1 e)), if_pos mode]
    rw [exec_running rfl running]
    simp only [taken, State.takeQuery, checked, State.answer_refusal]
  · have checked : s.queryCheck n hf data = .error ⟨.noRecord, none⟩ := by
      rw [State.queryCheck, if_neg (fun e => some (List.length_eq_zero_iff.1 e)), if_neg mode, State.namedSlot_eq_none free]
    rw [exec_running rfl running]
    simp only [taken, State.takeQuery, checked, State.answer_refusal]

/-- Settles O20: the checks of the model fail in the order of the table. -/
theorem reserveOutcome : Obligations.ReserveOutcome := by
  unfold Obligations.ReserveOutcome
  intro s n hf data running
  refine ⟨fun code slot refused => ?_, fun i r passed named hr => ?_⟩
  · rw [exec_running rfl running]
    simp only [taken, State.takeReserve, State.reserveCheck_error refused, State.answer_refusal]
    rfl
  · have record : (s.setMonitor n i (s.slot i).version).record i = some r := hr
    rw [exec_running rfl running]
    simp only [taken, State.takeReserve, State.reserveCheck_of_slot passed named hr, State.report_joined record]
    rfl

/-- Settles O21: the count in the answer is that of the latch after the message. -/
theorem qualifyOutcome : Obligations.QualifyOutcome := by
  unfold Obligations.QualifyOutcome
  intro s n hf data running
  obtain ⟨refused, accepted⟩ := s.qualifyCheck_eq n data
  rw [exec_running rfl running]
  refine ⟨fun h => ?_, fun k h kind => ?_⟩
  · simp only [taken, State.takeQualify, refused h, State.answer_refusal]
    rfl
  · simp only [taken, State.takeQualify, accepted k h kind, State.answer_joined, State.setLatch_quals, Reply.flags_plain,
      Latch.store, List.length_append, List.length_singleton, List.isEmpty_iff]
    rfl

end Sys2Proof.Proofs
end

section
/-! PROOF. What accepted OPEN, AMEND, AMEND_IF and RELEASE leave, and the ends of the countdowns (R5 to R20, R45, R58 to R61,
R84, R154). -/

namespace Sys2Proof.Machine
open Sys2Proof.Claims

variable {s t u : State} {n : Node} {hf : HandleField} {data : List Byte} {i j : SlotId} {r : Record} {c : RecClass}

/-! ## The whole state after an amendment (R7, R16, R18, R20) -/

/-- The fields of an amended record, in the words of the statements. -/
theorem Record.amended_eq {quals : List Qualifier} (nodup : (quals.map Qualifier.kind).Nodup) (r : Record) (x : Carried) :
    r.amended x quals = Claims.amended r quals x.force (x.limit.getD r.limit) x.lease := by
  rw [Record.amended, foldl_qualified_eq nodup]
  rcases hx : x.lease with _ | p
  · rfl
  · by_cases same : p = r.nextLease.getD r.leasePeriod
    · simp [Record.stage, Record.promote, Claims.amended, withQualifiers, Option.filter, same]
    · simp [Record.stage, Record.promote, Claims.amended, withQualifiers, Option.filter, same]

theorem Record.contentMoved_iff (before after : Record) : before.contentMoved after = true ↔ counts before after := by
  simp only [Record.contentMoved, Record.content, Bool.or_eq_true, bne_iff_ne, ne_eq, Prod.mk.injEq, not_and_or, or_assoc,
    Option.isSome_iff_ne_none]

theorem State.amendSlot_eq (hr : s.record i = some r) (x : Carried) (quals : List Qualifier) :
    s.amendSlot i x quals = { s with
      demand := { s.demand with slots := s.demand.slots.set i (amendedSlot (s.slot i) r (r.amended x quals)) }
      monitors := monitorsAfterAmendment s.monitors i r (r.amended x quals) } := by
  unfold State.amendSlot
  rw [hr]
  by_cases moved : counts r (r.amended x quals)
  · simp only [amendedSlot, monitorsAfterAmendment, if_pos moved, (Record.contentMoved_iff _ _).2 moved, if_true,
      State.clearMonitorsOf_eq]
    rfl
  · have still : r.contentMoved (r.amended x quals) = false := by simpa using (Record.contentMoved_iff _ _).not.2 moved
    simp only [amendedSlot, monitorsAfterAmendment, if_neg moved, still, Bool.false_eq_true, if_false]
    rfl

theorem State.amendSlot_own (hr : s.record i = some r) (x : Carried) (quals : List Qualifier) :
    (s.amendSlot i x quals).slot i = amendedSlot (s.slot i) r (r.amended x quals) := by
  rw [State.amendSlot_eq hr]
  simp [State.slot]

/-- The answer to an amendment that kept the record's state. -/
theorem State.amendSlot_answer (hr : s.record i = some r) {x : Carried} {quals : List Qualifier}
    (nodup : (quals.map Qualifier.kind).Nodup) (k : MsgKind) (n : Node) (hf : HandleField) :
    (s.amendSlot i x quals).answer k n hf
        { code := .accepted, clamped := x.clamped, kinds := quals.map Qualifier.kind, slot := some i } =
      let q := Claims.amended r quals x.force (x.limit.getD r.limit) x.lease
      { s with
        demand := { s.demand with slots := s.demand.slots.set i (amendedSlot (s.slot i) r q) }
        monitors := monitorsAfterAmendment s.monitors i r q
        vehicleTx := joined s.vehicleTx [Claims.answer s k n hf .accepted (flagsByte x.clamped quals) (s.quals n).length
          (about i (some r.state) (amendedSlot (s.slot i) r q).version r.cover)] } := by
  have own := State.amendSlot_own hr x quals
  have record : (s.amendSlot i x quals).record i = some (r.amended x quals) := congrArg Slot.record own
  rw [State.answer_joined, State.slotBytes_some record, own, Reply.flags_eq, State.amendSlot_eq hr, Record.amended_eq nodup]
  rfl

/-- An AMEND of a record in ACTIVE, HELD or WAITING. -/
theorem State.takeAmend_live {x : Carried} (checked : s.amendCheck n hf data = .ok { slot := i, carried := x })
    (hr : s.record i = some r) (live : r.live = true) (nodup : ((s.quals n).map Qualifier.kind).Nodup) :
    s.takeAmend n hf data =
      let q := Claims.amended r (s.quals n) x.force (x.limit.getD r.limit) x.lease
      { s with
        latches := s.latches.set n { quals := [], hold := none }
        demand := { s.demand with slots := s.demand.slots.set i (amendedSlot (s.slot i) r q) }
        monitors := monitorsAfterAmendment s.monitors i r q
        vehicleTx := joined s.vehicleTx [Claims.answer s .amend n hf .accepted (flagsByte x.clamped (s.quals n)) 0
          (about i (some r.state) (amendedSlot (s.slot i) r q).version r.cover)] } := by
  have hr' : (s.emptyLatch n).record i = some r := hr
  have applied : (s.emptyLatch n).amendApply { slot := i, carried := x } (s.quals n)
      = (s.emptyLatch n).amendSlot i x (s.quals n) := by
    simp only [State.amendApply, hr', Option.any_some, live, if_true]
  simp only [State.takeAmend, checked, applied, State.amendCode, hr, Option.any_some, live, if_true]
  rw [State.amendSlot_answer hr' nodup, State.emptyLatch_quals]
  rfl

/-! ## The whole state after an admission (R5, R58, R61) -/

theorem slots_eq_ofFn {f : SlotId → Slot} (each : ∀ j, s.slot j = f j) : s.demand.slots = Vector.ofFn f := by
  ext j hj : 1
  rw [Vector.getElem_ofFn]
  exact each ⟨j, hj⟩

theorem State.admissionTest_eq (hr : s.record i = some r)
    (flag : s.arbiter.suppression = holdsCollisionRecord s s.arbiter.listed) :
    s.admissionTest i = { s with
      demand := { s.demand with
        slots := Vector.ofFn fun j =>
          if j = i then becomes (s.slot i) (admittedState s.arbiter r.cls)
          else realigned s.arbiter.suppression (arbiterAdmitting s.arbiter i r.cls).suppression (s.slot j) }
      arbiter := arbiterAdmitting s.arbiter i r.cls } := by
  have frame := s.admissionTest_frame i
  have slots := slots_eq_ofFn (State.admissionTest_slot hr flag)
  have arbiter := State.admissionTest_arbiter hr flag
  generalize s.admissionTest i = t at frame slots arbiter ⊢
  rw [frame, slots, arbiter]

/-- QUEUED is the code of a record admitted to WAITING (R5, R35). -/
theorem State.admissionCode_eq (hr : s.record i = some r) :
    s.admissionCode i = if r.state = .waiting then .queued else .accepted := by
  simp [State.admissionCode, hr]

/-- The flag of a state whose records at the listed slots keep their classes. -/
theorem ArbiterLaw.flag (law : ArbiterLaw s) (arbiter : t.arbiter = s.arbiter)
    (cls : ∀ j ∈ s.arbiter.listed, (t.record j).map Record.cls = (s.record j).map Record.cls) :
    t.arbiter.suppression = holdsCollisionRecord t t.arbiter.listed := by
  obtain ⟨-, -, flag⟩ := (arbiterLaw_iff s).1 law
  rw [arbiter, flag, holdsCollisionRecord_congr cls]

/-- A slot that is FREE or holds a STALE record is not listed (R57). -/
theorem ArbiterLaw.not_listed (law : ArbiterLaw s) (stale : ∀ r ∈ s.record i, r.state = .stale) : i ∉ s.arbiter.listed := by
  obtain ⟨-, stands, -⟩ := (arbiterLaw_iff s).1 law
  exact ((stands i).not_mem stale).1

/-- The state in which the record of slot i has been amended to q and revived, q of the state that the admission test gives. -/
def State.revived (s : State) (i : SlotId) (r q : Record) : State :=
  { s with
    demand := { s.demand with
      slots := Vector.ofFn fun j =>
        if j = i then { amendedSlot (s.slot i) r q with mark := false }
        else realigned s.arbiter.suppression (arbiterAdmitting s.arbiter i r.cls).suppression (s.slot j) }
    monitors := monitorsAfterAmendment s.monitors i r q
    arbiter := arbiterAdmitting s.arbiter i r.cls }

theorem State.revived_own (s : State) (i : SlotId) (r q : Record) :
    (s.revived i r q).slot i = { amendedSlot (s.slot i) r q with mark := false } := by
  simp [State.revived, State.slot]

/-- A STALE record revived by an amendment (R11). -/
theorem State.amendSlot_admissionTest (hr : s.record i = some r) (law : ArbiterLaw s) (x : Carried) (quals : List Qualifier)
    {q : Record} (revived : { r.amended x quals with state := admittedState s.arbiter r.cls, cover := .unserved } = q) :
    (s.amendSlot i x quals).admissionTest i = s.revived i r q := by
  subst revived
  have own := State.amendSlot_own hr x quals
  have record : (s.amendSlot i x quals).record i = some (r.amended x quals) := congrArg Slot.record own
  have other (j : SlotId) (ne : j ≠ i) : (s.amendSlot i x quals).slot j = s.slot j := by
    rw [State.amendSlot_slot hr, if_neg ne.symm]
  have arbiter : (s.amendSlot i x quals).arbiter = s.arbiter := congrArg (·.arbiter) (s.amendSlot_frame i x quals)
  have cls : (r.amended x quals).cls = r.cls := (r.amended_fixed x quals).2.2.1
  have flag := law.flag arbiter fun j _ => by
    rcases eq_or_ne j i with rfl | ne
    · rw [record, hr, Option.map_some, Option.map_some, cls]
    · rw [State.record_eq, other j ne, ← State.record_eq]
  have each (j : SlotId) : (if j = i then becomes (amendedSlot (s.slot i) r (r.amended x quals)) (admittedState s.arbiter r.cls)
        else realigned s.arbiter.suppression (arbiterAdmitting s.arbiter i r.cls).suppression ((s.amendSlot i x quals).slot j))
      = if j = i then becomes (amendedSlot (s.slot i) r (r.amended x quals)) (admittedState s.arbiter r.cls)
        else realigned s.arbiter.suppression (arbiterAdmitting s.arbiter i r.cls).suppression (s.slot j) := by
    split_ifs with same
    · rfl
    · rw [other j same]
  rw [State.admissionTest_eq record flag, cls, arbiter, own, funext each, State.amendSlot_eq hr]
  rfl

/-- The answer about a slot of which the record is known (R48). -/
theorem State.answer_about {x : Slot} (own : s.slot i = x) (hr : x.record = some r) (k : MsgKind) (n : Node) (hf : HandleField)
    (clamped : Bool) (quals : List Qualifier) :
    s.answer k n hf
        { code := s.admissionCode i, clamped := clamped, kinds := quals.map Qualifier.kind, slot := some i } =
      { s with
        vehicleTx := joined s.vehicleTx
          [Claims.answer s k n hf (if r.state = .waiting then .queued else .accepted) (flagsByte clamped quals)
            (s.quals n).length (about i (some r.state) x.version r.cover)] } := by
  have record : s.record i = some r := (congrArg Slot.record own).trans hr
  rw [State.answer_joined, State.slotBytes_some record, State.admissionCode_eq record, Reply.flags_eq, own]

/-- An answer depends on the protocol tag alone. -/
theorem answer_congr (same : t.settings = s.settings) : Claims.answer t = Claims.answer s := by
  funext k n hf code flags count bytes
  rw [Claims.answer, Claims.answer, same]

theorem State.quals_congr (same : t.latches = s.latches) (n : Node) : t.quals n = s.quals n := by
  rw [State.quals, State.quals, same]

theorem State.revived_answer (s : State) (i : SlotId) (r q : Record) (n : Node) (hf : HandleField) (clamped : Bool)
    (quals : List Qualifier) :
    ((s.emptyLatch n).revived i r q).answer .amend n hf
        { code := ((s.emptyLatch n).revived i r q).admissionCode i, clamped := clamped, kinds := quals.map Qualifier.kind
          slot := some i } =
      { s.revived i r q with
        latches := s.latches.set n { quals := [], hold := none }
        vehicleTx := joined s.vehicleTx
          [Claims.answer s .amend n hf (if q.state = .waiting then .queued else .accepted) (flagsByte clamped quals) 0
            (about i (some q.state) (amendedSlot (s.slot i) r q).version q.cover)] } := by
  have count : (((s.emptyLatch n).revived i r q).quals n).length = 0 := by
    rw [State.quals_congr (t := (s.emptyLatch n).revived i r q) (s := s.emptyLatch n) rfl, State.emptyLatch_quals, List.length_nil]
  have own := State.revived_own (s.emptyLatch n) i r q
  have same : ((s.emptyLatch n).revived i r q).settings = s.settings := rfl
  have queue : ((s.emptyLatch n).revived i r q).vehicleTx = s.vehicleTx := rfl
  rw [State.answer_about (r := q) own rfl, count, answer_congr same, queue]
  rfl

/-- An AMEND of a STALE record: q is the record as the admission test leaves it. -/
theorem State.takeAmend_stale (law : ArbiterLaw s) {x : Carried}
    (checked : s.amendCheck n hf data = .ok { slot := i, carried := x })
    (hr : s.record i = some r) (stale : r.state = .stale) (nodup : ((s.quals n).map Qualifier.kind).Nodup) {q : Record}
    (revived : { Claims.amended r (s.quals n) x.force (x.limit.getD r.limit) x.lease with
      state := admittedState s.arbiter r.cls, cover := .unserved } = q) :
    s.takeAmend n hf data =
      { s.revived i r q with
        latches := s.latches.set n { quals := [], hold := none }
        vehicleTx := joined s.vehicleTx
          [Claims.answer s .amend n hf (if q.state = .waiting then .queued else .accepted) (flagsByte x.clamped (s.quals n)) 0
            (about i (some q.state) (amendedSlot (s.slot i) r q).version q.cover)] } := by
  have hr' : (s.emptyLatch n).record i = some r := hr
  have law' : ArbiterLaw (s.emptyLatch n) := law
  have dead : r.live = false := by simp [Record.live, stale]
  have applied : (s.emptyLatch n).amendApply { slot := i, carried := x } (s.quals n)
      = ((s.emptyLatch n).amendSlot i x (s.quals n)).admissionTest i := by
    simp only [State.amendApply, hr', Option.any_some, dead, Bool.false_eq_true, if_false]
  rw [← Record.amended_eq nodup] at revived
  simp only [State.takeAmend, checked, applied, State.amendCode, hr, Option.any_some, dead, Bool.false_eq_true, if_false]
  rw [State.amendSlot_admissionTest hr' law' _ _ revived, State.revived_answer]

/-! ## The whole state after a departure (R9, R59, R61) -/

theorem realigned_of_stale {x : Slot} (stale : ∀ r ∈ x.record, r.state = .stale) (before now : Bool) :
    realigned before now x = x := by
  rcases hx : x.record with _ | r
  · simp [realigned, hx]
  · have state := stale r hx
    exact realigned_of_active hx (by rw [state]; nofun) (.inr (by rw [state]; nofun)) before now

/-- The departure of a slot that has been freed or made STALE, from the state s in which the law held. -/
theorem State.depart_eq (law : ArbiterLaw s) (arbiter : t.arbiter = s.arbiter) (others : ∀ j ≠ i, t.slot j = s.slot j)
    (stale : ∀ r ∈ t.record i, r.state = .stale) :
    t.depart i = { t with
      demand := { t.demand with slots := Vector.ofFn fun j => if j = i then t.slot i else slotAfterDeparture s i j }
      arbiter := arbiterWithout s i } := by
  obtain ⟨lists, stands, flag⟩ := (arbiterLaw_iff s).1 law
  have apart (j : SlotId) (listed : j ∈ s.arbiter.listed) : j ∉ s.arbiter.waiting := fun waiting => by
    obtain ⟨r, hr, -, active⟩ := (stands j).listed.1 listed
    obtain ⟨q, hq, state⟩ := (stands j).waiting.1 waiting
    obtain rfl : r = q := Option.mem_unique hr hq
    rw [active] at state
    cases state
  have gone : i ∉ listWithout s.arbiter i := (notMem_listsWithout (b := s.arbiter.suppression) lists (apart i)).1
  have collision : holdsCollisionRecord t (listWithout s.arbiter i) = holdsCollisionRecord s (listWithout s.arbiter i) :=
    holdsCollisionRecord_congr fun j hj => by
      rw [State.record_eq, others j fun e => gone (e ▸ hj), ← State.record_eq]
  have after : (t.depart i).arbiter = arbiterWithout s i := by
    rw [State.depart_arbiter, arbiter, collision]
    unfold arbiterWithout
    by_cases listed : i ∈ s.arbiter.listed
    · rw [if_pos listed, if_pos listed]
    · rw [if_neg listed, if_neg listed, flag, listWithout, if_neg listed]
  have slots (j : SlotId) : (t.depart i).slot j = if j = i then t.slot i else slotAfterDeparture s i j := by
    rw [State.depart_slot, after, arbiter]
    split_ifs with succeeds same same
    · subst same
      exact absurd (List.mem_of_mem_head? succeeds.2) (apart j succeeds.1)
    · rw [others j same, slotAfterDeparture, if_pos succeeds]
    · subst same
      exact realigned_of_stale stale _ _
    · rw [others j same, slotAfterDeparture, if_neg succeeds]
  have frame := t.depart_frame i
  have slots := slots_eq_ofFn slots
  generalize t.depart i = w at frame slots after ⊢
  rw [frame, slots, after]

/-! ## The whole state after an OPEN (R5, R6, R32) -/

theorem monitorsWithout_cons (ms : Vector Monitor 16) (i : SlotId) (l : List SlotId) :
    monitorsWithout (monitorsWithout ms l) [i] = monitorsWithout ms (i :: l) := by
  ext m hm : 1
  simp only [monitorsWithout, Fin.getElem_fin, Vector.getElem_ofFn, List.mem_cons, List.not_mem_nil, or_false]
  by_cases last : ms[m].slot ∈ l
  · simp only [last, if_true, or_true]
    split_ifs <;> rfl
  · simp only [last, if_false, or_false]

theorem monitorsWithout_nil (ms : Vector Monitor 16) : monitorsWithout ms [] = ms := by
  ext m hm : 1
  simp [monitorsWithout]

theorem State.vacated_eq (s : State) (k : Option SlotId) :
    s.vacated k = { s with
      demand := { slots := (s.vacated k).demand.slots, age := s.demand.age.diff k.toList }
      monitors := monitorsWithout s.monitors k.toList } := by
  rcases k with _ | k
  · simp [State.vacated, monitorsWithout_nil]
  · simp [State.vacated, State.freeSlot, State.clearMonitorsOf_eq]

theorem State.vacated_slot (s : State) (k : Option SlotId) (j : SlotId) :
    (s.vacated k).slot j
      = if j ∈ k.toList then { s.slot j with record := none, countdown := none, mark := false } else s.slot j := by
  rcases k with _ | k
  · simp [State.vacated]
  · simp only [State.vacated, State.freeSlot_slot, Option.toList_some, List.mem_singleton]
    split_ifs with own same same
    · rw [own]
    · exact absurd own.symm same
    · exact absurd same.symm own
    · rfl

/-- The record that an OPEN creates, before its admission. -/
theorem newRecord_eq (t : Settings) (n : Node) (h : Fin 4) (c : RecClass) (shared : Bool) (x : Carried) {quals : List Qualifier}
    (nodup : (quals.map Qualifier.kind).Nodup) :
    newRecord t n h c shared x quals = withQualifiers
      { owner := n, handle := h, cls := c, shared := shared, state := .active
        force := x.force, limit := x.limit.getD none
        sources := .ofMask (t.row c).sources, exclusion := axleSetEmpty
        onset := none, inhibit := t.defaultInhibit c
        leasePeriod := x.lease.getD 0, nextLease := none, cover := .unserved } quals := foldl_qualified_eq nodup _

/-- The state in which record r, of the state that the admission test gives, has been created in slot i, in the place of the
STALE record in slot `old` if there is one. -/
def State.opened (s : State) (old : Option SlotId) (i : SlotId) (r : Record) : State :=
  { s with
    demand :=
      { slots := Vector.ofFn fun j =>
          if j = i then
            { record := some r, version := (s.slot i).version + 1, countdown := some (10 * r.leasePeriod), mark := false }
          else if j ∈ old.toList then { s.slot j with record := none, countdown := none, mark := false }
          else realigned s.arbiter.suppression (arbiterAdmitting s.arbiter i r.cls).suppression (s.slot j)
        age := s.demand.age.diff old.toList ++ [i] }
    monitors := monitorsWithout s.monitors (i :: old.toList)
    arbiter := arbiterAdmitting s.arbiter i r.cls }

theorem State.opened_own (s : State) (old : Option SlotId) (i : SlotId) (r : Record) :
    (s.opened old i r).slot i
      = { record := some r, version := (s.slot i).version + 1, countdown := some (10 * r.leasePeriod), mark := false } := by
  simp [State.opened, State.slot]

theorem State.opened_answer (s : State) (old : Option SlotId) (i : SlotId) (r : Record) (n : Node) (hf : HandleField)
    (clamped : Bool) (quals : List Qualifier) :
    ((s.emptyLatch n).opened old i r).answer .openRecord n hf
        { code := ((s.emptyLatch n).opened old i r).admissionCode i, clamped := clamped, kinds := quals.map Qualifier.kind
          slot := some i } =
      { s.opened old i r with
        latches := s.latches.set n { quals := [], hold := none }
        vehicleTx := joined s.vehicleTx
          [Claims.answer s .openRecord n hf (if r.state = .waiting then .queued else .accepted) (flagsByte clamped quals) 0
            (about i (some r.state) ((s.slot i).version + 1) r.cover)] } := by
  have count : (((s.emptyLatch n).opened old i r).quals n).length = 0 := by
    rw [State.quals_congr (t := (s.emptyLatch n).opened old i r) (s := s.emptyLatch n) rfl, State.emptyLatch_quals, List.length_nil]
  have own := State.opened_own (s.emptyLatch n) old i r
  have same : ((s.emptyLatch n).opened old i r).settings = s.settings := rfl
  have queue : ((s.emptyLatch n).opened old i r).vehicleTx = s.vehicleTx := rfl
  rw [State.answer_about (r := r) own rfl, count, answer_congr same, queue]
  rfl

/-- An admitted OPEN: the slot it takes is FREE once the STALE record on its handle is gone. -/
theorem State.openAdmit_opened (law : ArbiterLaw s) {old : Option SlotId}
    (stale : ∀ k ∈ old, ∀ r ∈ s.record k, r.state = .stale)
    (free : s.record i = none ∨ old = some i) {q : Record}
    (admitted : { q with state := admittedState s.arbiter q.cls, cover := .unserved } = r) (clamped : Bool) :
    s.openAdmit { replaced := old, slot := i, record := q, clamped := clamped } = s.opened old i r := by
  subst admitted
  have version : ((s.vacated old).slot i).version = (s.slot i).version := by
    rw [State.vacated_slot]
    split_ifs <;> rfl
  have slots (j : SlotId) : ((s.vacated old).createRecord i q).slot j =
      if j = i then { record := some q, version := (s.slot i).version + 1, countdown := some (10 * q.leasePeriod), mark := false }
      else (s.vacated old).slot j := by
    rw [State.createRecord_slot, version]
    simp only [eq_comm]
  have record : ((s.vacated old).createRecord i q).record i = some q := by rw [State.record_eq, slots, if_pos rfl]
  have arbiter : ((s.vacated old).createRecord i q).arbiter = s.arbiter := by
    rw [State.vacated_frame]
    rfl
  have out (j : SlotId) (listed : j ∈ s.arbiter.listed) : j ≠ i ∧ j ∉ old.toList := by
    have replaced : j ∉ old.toList := fun mem => law.not_listed (stale j (Option.mem_toList.1 mem)) listed
    refine ⟨?_, replaced⟩
    rintro rfl
    rcases free with none | same
    · exact law.not_listed (by simp [none]) listed
    · exact replaced (by simp [same])
  have flag := law.flag arbiter fun j listed => by
    obtain ⟨ne, replaced⟩ := out j listed
    rw [State.record_eq, slots, if_neg ne, State.vacated_slot, if_neg replaced, ← State.record_eq]
  have each (j : SlotId) : (if j = i then becomes (((s.vacated old).createRecord i q).slot i) (admittedState s.arbiter q.cls)
        else realigned s.arbiter.suppression (arbiterAdmitting s.arbiter i q.cls).suppression
          (((s.vacated old).createRecord i q).slot j))
      = if j = i then
          { record := some { q with state := admittedState s.arbiter q.cls, cover := .unserved }
            version := (s.slot i).version + 1, countdown := some (10 * q.leasePeriod), mark := false }
        else if j ∈ old.toList then { s.slot j with record := none, countdown := none, mark := false }
        else realigned s.arbiter.suppression (arbiterAdmitting s.arbiter i q.cls).suppression (s.slot j) := by
    split_ifs with same replaced
    · rw [slots, if_pos rfl]
      rfl
    · rw [slots, if_neg same, State.vacated_slot, if_pos replaced]
      exact realigned_of_stale (by simp) _ _
    · rw [slots, if_neg same, State.vacated_slot, if_neg replaced]
  rw [State.openAdmit_eq, State.admissionTest_eq record flag, arbiter, funext each, State.createRecord,
    State.clearMonitorsOf_eq, State.vacated_eq]
  simp only [State.putSlot, monitorsWithout_cons]
  rfl

/-- An admitted OPEN: r is the new record q as the admission test leaves it. -/
theorem State.takeOpen_admitted (law : ArbiterLaw s) {old : Option SlotId}
    (stale : ∀ k ∈ old, ∀ r ∈ s.record k, r.state = .stale)
    (free : s.record i = none ∨ old = some i) {q : Record} {clamped : Bool}
    (checked : s.openCheck n hf data = .ok { replaced := old, slot := i, record := q, clamped := clamped })
    (admitted : { q with state := admittedState s.arbiter q.cls, cover := .unserved } = r) :
    s.takeOpen n hf data =
      { s.opened old i r with
        latches := s.latches.set n { quals := [], hold := none }
        vehicleTx := joined s.vehicleTx
          [Claims.answer s .openRecord n hf (if r.state = .waiting then .queued else .accepted) (flagsByte clamped (s.quals n)) 0
            (about i (some r.state) ((s.slot i).version + 1) r.cover)] } := by
  have law' : ArbiterLaw (s.emptyLatch n) := law
  simp only [State.takeOpen, checked]
  rw [State.openAdmit_opened (s := s.emptyLatch n) law' stale free admitted, State.opened_answer]

/-! ## AMEND_IF (R21, R37) -/

/-- An AMEND_IF that passes its checks found the sender's monitor valid, at this slot and at its version (R21). -/
theorem State.amendIfCheck_reserved {p : AmendPlan} (checked : s.amendIfCheck n data = .ok p) :
    ∃ r, s.record p.slot = some r ∧ s.monitors[n].valid = true ∧ s.monitors[n].slot = p.slot
      ∧ s.monitors[n].version = (s.slot p.slot).version ∧ r.state ≠ .stale := by
  unfold State.amendIfCheck at checked
  split at checked
  · cases checked
  split at checked
  · cases checked
  split at checked
  · cases checked
  next i r reserved =>
  obtain ⟨-, hr, valid, slot, version, live, current⟩ := State.reservationTest_some reserved
  unfold State.amendFieldCheck at checked
  split at checked
  · cases checked
  split at checked
  · cases checked
  cases checked
  exact ⟨r, hr, valid, slot, version.trans current.symm, (Record.live_iff r).1 live⟩

/-- An AMEND_IF leaves every slot but the one of its plan. -/
theorem State.takeAmendIf_slot (s : State) (n : Node) (hf : HandleField) (data : List Byte) (j : SlotId) :
    (s.takeAmendIf n hf data).slot j = s.slot j ∨ ∃ p, s.amendIfCheck n data = .ok p ∧ p.slot = j := by
  have answered (u : State) (k : MsgKind) (y : Reply) : (u.answer k n hf y).slot j = u.slot j := by
    rw [State.answer_eq]
    rfl
  unfold State.takeAmendIf
  rcases checked : s.amendIfCheck n data with d | p
  · exact .inl (answered _ _ _)
  · rcases eq_or_ne p.slot j with same | ne
    · exact .inr ⟨p, rfl, same⟩
    · obtain ⟨r, hr, -⟩ := State.amendIfCheck_reserved checked
      have hr' : ((s.emptyLatch n).clearMonitor n).record p.slot = some r := hr
      refine .inl ((answered _ _ _).trans ?_)
      rw [State.amendSlot_slot hr', if_neg ne]
      rfl

/-! ## The ends of the countdowns (R10, R12, R84) -/

theorem State.leaseExpires_eq (law : ArbiterLaw s) (hr : s.record i = some r) (live : r.state ≠ .stale) :
    s.leaseExpires i = { s with
      demand :=
        { s.demand with
          slots := Vector.ofFn fun j =>
            if j = i then
              { record := some { r with state := .stale, cover := .unserved }, version := (s.slot i).version
                countdown := some (10 * s.settings.classRows[r.cls.row].grace.toNat), mark := false }
            else slotAfterDeparture s i j }
      monitors := monitorsWithout s.monitors [i]
      arbiter := arbiterWithout s i } := by
  have record : (s.slot i).record = some r := hr
  unfold State.leaseExpires
  rw [hr]
  simp only [(Record.live_iff r).2 live, if_true]
  generalize stale : ({ (s.slot i).enter .stale with countdown := some (10 * (s.settings.row r.cls).grace.toNat) } : Slot) = x
  have entered : x = { record := some { r with state := .stale, cover := .unserved }, version := (s.slot i).version
                       countdown := some (10 * s.settings.classRows[r.cls.row].grace.toNat), mark := false } := by
    rw [← stale, Slot.enter, record]
    rfl
  have own : ((s.putSlot i x).clearMonitorsOf i).slot i = x := (s.putSlot_slot i i x).trans (if_pos rfl)
  have others (j : SlotId) (ne : j ≠ i) : ((s.putSlot i x).clearMonitorsOf i).slot j = s.slot j :=
    (s.putSlot_slot i j x).trans (if_neg ne.symm)
  have gone : ∀ q ∈ ((s.putSlot i x).clearMonitorsOf i).record i, q.state = .stale := by
    rw [State.record_eq, own, entered]
    rintro q ⟨⟩
    rfl
  rw [State.depart_eq (t := (s.putSlot i x).clearMonitorsOf i) law rfl others gone, own, entered, State.clearMonitorsOf_eq]
  rfl

theorem taken_statusTimerExpiry {x : HealthSource} (runs : (s.health.entry x).timer ≠ none) :
    taken (.statusTimerExpiry x) s = { s with health := s.health.put x .silent } :=
  if_pos (Option.isSome_iff_ne_none.2 runs)

end Sys2Proof.Machine

namespace Sys2Proof.Proofs
open Sys2Proof.Machine Sys2Proof.Claims

/-- Settles O6: the STALE record on the handle goes, the new one is created, and the admission test gives its state. -/
theorem openAdmitted : Obligations.OpenAdmitted := by
  unfold Obligations.OpenAdmitted
  intro s n h hf data c i running passed handle cls free nodup law
  obtain ⟨checked, stale⟩ := State.openCheck_of_class_slot passed handle cls free
  have replaced : ∀ k ∈ handleSlot s n hf, ∀ r ∈ s.record k, r.state = .stale := fun k found r hr => by
    have dead := stale k found
    rw [isStale_eq (Option.mem_def.1 hr), Bool.not_eq_true', ← Bool.not_eq_true, Record.live_iff, not_not] at dead
    exact dead
  have vacant : s.record i = none ∨ handleSlot s n hf = some i := by
    have holds := List.find?_some free
    simpa using holds
  have created := newRecord_eq s.settings n h c ((byteAt data 1).getLsbD 0) (carriedFull (s.settings.row c) data 2) nodup
  generalize newRecord s.settings n h c ((byteAt data 1).getLsbD 0) (carriedFull (s.settings.row c) data 2) (s.quals n) = q
    at checked created
  have cls : q.cls = c := congrArg Record.cls created
  intro old row inhibit r
  have admitted : ({ q with state := admittedState s.arbiter q.cls, cover := .unserved } : Record) = r := by
    rw [cls, created]
    cases c <;> rfl
  refine (exec_running rfl running).trans (congrArg _ ?_)
  refine (State.takeOpen_admitted law replaced vacant checked admitted).trans ?_
  have clamped : (carriedFull (s.settings.row c) data 2).clamped = clampedAt row data 2 := rfl
  have unserved : r.cover = .unserved := rfl
  have same : r.cls = c := rfl
  rw [clamped, unserved]
  unfold State.opened
  rw [same]

/-- Settles O8. -/
theorem amendCompactApplied : Obligations.AmendCompactApplied := by
  unfold Obligations.AmendCompactApplied
  intro s n hf data i r running compact passed found hr nodup
  have checked := State.amendCheck_of_record passed found hr
  rw [amendCarried, if_pos compact] at checked
  rw [exec_running rfl running]
  simp only [taken]
  rw [State.takeAmend_live checked hr (live_of_compact passed compact found hr) nodup]
  rfl

/-- Settles O9. -/
theorem amendFullApplied : Obligations.AmendFullApplied := by
  unfold Obligations.AmendFullApplied
  intro s n hf data i r running full passed found hr live nodup
  have checked := State.amendCheck_of_record passed found hr
  rw [amendCarried, if_neg (Nat.not_lt.2 full)] at checked
  rw [exec_running rfl running]
  simp only [taken]
  rw [State.takeAmend_live checked hr ((Record.live_iff r).2 live) nodup]
  rfl

/-- Settles O10: the amended record goes through the admission test. -/
theorem amendFullRevives : Obligations.AmendFullRevives := by
  unfold Obligations.AmendFullRevives
  intro s n hf data i r running full passed found hr stale nodup law
  have checked := State.amendCheck_of_record passed found hr
  rw [amendCarried, if_neg (Nat.not_lt.2 full)] at checked
  intro row q
  refine (exec_running rfl running).trans (congrArg _ ?_)
  refine (State.takeAmend_stale (q := q) law checked hr stale nodup rfl).trans ?_
  have clamped : (carriedFull (s.settings.row r.cls) data 0).clamped = clampedAt row data 0 := rfl
  have unserved : q.cover = .unserved := rfl
  rw [clamped, unserved]
  unfold State.revived
  generalize q = q
  rfl

/-- Settles O12. -/
theorem amendIfApplied : Obligations.AmendIfApplied := by
  unfold Obligations.AmendIfApplied
  intro s n hf data i r running passed named hr nodup
  have hr' : ((s.emptyLatch n).clearMonitor n).record i = some r := hr
  have quals : ((s.emptyLatch n).clearMonitor n).quals n = [] := s.emptyLatch_quals n
  rw [exec_running rfl running]
  simp only [taken, State.takeAmendIf, State.amendIfCheck_of_record passed named hr]
  rw [State.amendSlot_answer hr' nodup, quals]
  rfl

/-- Settles O14: a slot changes under a plan only, and a plan needs the reservation. -/
theorem amendIfNeedsReservation : Obligations.AmendIfNeedsReservation := by
  unfold Obligations.AmendIfNeedsReservation
  intro s t n hf data i next changed
  by_cases running : s.inReset = false
  · rw [exec_running rfl running] at next
    cases next
    obtain same | ⟨p, checked, rfl⟩ := s.takeAmendIf_slot n hf data i
    · exact absurd same changed
    · obtain ⟨r, hr, valid, slot, version, live⟩ := State.amendIfCheck_reserved checked
      exact ⟨valid, slot, version, r, hr, live⟩
  · rw [exec_inReset rfl (by simpa using running)] at next
    cases next
    exact absurd rfl changed

/-- Settles O17: the slot is freed, then departs. -/
theorem releaseApplied : Obligations.ReleaseApplied := by
  unfold Obligations.ReleaseApplied
  intro s n hf data i running passed found law
  obtain ⟨r, hr, -, -⟩ := handleSlot_record found
  have own : (s.freeSlot i).slot i = { s.slot i with record := none, countdown := none, mark := false } := by
    rw [State.freeSlot_slot, if_pos rfl]
  have others (j : SlotId) (ne : j ≠ i) : (s.freeSlot i).slot j = s.slot j := by rw [State.freeSlot_slot, if_neg ne.symm]
  have empty : ∀ q ∈ (s.freeSlot i).record i, q.state = .stale := by
    rw [State.record_eq, own]
    simp
  have departed := State.depart_eq (t := s.freeSlot i) law rfl others empty
  rw [own] at departed
  have gone : ((s.freeSlot i).depart i).slot i = { s.slot i with record := none, countdown := none, mark := false } := by
    rw [departed]
    simp [State.slot]
  have bytes : (((s.freeSlot i).depart i).emptyLatch n).slotBytes (some i) = about i none (s.slot i).version .unserved := by
    have bytes (x : Slot) (free : ((s.freeSlot i).depart i).slot i = x) :
        (((s.freeSlot i).depart i).emptyLatch n).slotBytes (some i)
          = about i (x.record.map Record.state) x.version ((x.record.map Record.cover).getD .unserved) := by
      rw [← free]
      rfl
    exact bytes _ gone
  rw [exec_running rfl running]
  simp only [taken, State.takeRelease, State.handleCheck_of_record passed found hr, State.answer_joined, bytes,
    State.emptyLatch_quals, Reply.flags_plain]
  rw [departed, State.freeSlot, State.clearMonitorsOf_eq]
  rfl

/-- Settles O28. -/
theorem leaseExpiryEffect : Obligations.LeaseExpiryEffect := by
  unfold Obligations.LeaseExpiryEffect
  intro s i r running hr live law
  exact (exec_running rfl running).trans (congrArg _ (State.leaseExpires_eq law hr live))

/-- Settles O29. -/
theorem timersExpire : Obligations.TimersExpire := by
  unfold Obligations.TimersExpire
  intro s running
  refine ⟨fun i r hr stale => ?_, fun n runs => ?_, fun runs => ?_, fun runs => ?_, fun j runs => ?_, fun runs mode => ?_⟩
  · rw [exec_running rfl running]
    simp only [taken, State.graceExpires, hr, Option.any_some, stale, beq_self_eq_true, if_true, State.freeSlot,
      State.clearMonitorsOf_eq]
    rfl
  · rw [exec_running rfl running]
    simp only [taken, State.holdExpires, Option.isSome_iff_ne_none.2 runs, if_true]
    rfl
  · exact (exec_running rfl running).trans (congrArg _ (taken_statusTimerExpiry (x := .retarder) runs))
  · exact (exec_running rfl running).trans (congrArg _ (taken_statusTimerExpiry (x := .exhaust) runs))
  · exact (exec_running rfl running).trans (congrArg _ (taken_statusTimerExpiry (x := .modulator j) runs))
  · rw [exec_running rfl running]
    simp only [taken, Option.isSome_iff_ne_none.2 runs, mode, beq_self_eq_true, Bool.and_self, if_true]
    rfl

end Sys2Proof.Proofs
end

section
/-! PROOF. The two links: which frames are read and as what, the frames sent, the placing of a SUMMARY pair and the hand-over of the
set-point frames (R26, R50, R52, R124, R181), and the sample and health frames that start no pass (R71 to R75, R83). -/

namespace Sys2Proof.Machine
open Sys2Proof.Claims

variable {s t : State}

/-! ## The filters (R26, R181) -/

/-- The filter of R26 drops a frame. -/
theorem decodeVehicleFrame_eq_none {tag : Half} {f : CanFrame}
    (dropped : f.extended = false ∨ f.remote = true ∨ (f.id >>> 16).setWidth 16 ≠ tag ∨ f.id.setWidth 4 ≠ 0#4
      ∨ f.id.toNat / 4096 % 16 = 0 ∨ 9 ≤ f.id.toNat / 4096 % 16) : decodeVehicleFrame tag f = none := by
  have kind : ((f.id >>> 12).setWidth 4 : BitVec 4).toNat = f.id.toNat / 4096 % 16 := by
    simp [BitVec.toNat_setWidth, BitVec.toNat_ushiftRight, Nat.shiftRight_eq_div_pow]
  unfold decodeVehicleFrame
  by_cases kept : f.extended = true ∧ ¬ f.remote = true ∧ (f.id >>> 16).setWidth 16 = tag ∧ f.id.setWidth 4 = 0#4
  · obtain ⟨extended, data, own, zero⟩ := kept
    rw [if_pos ⟨extended, data, own, zero⟩]
    dsimp only
    rw [kind]
    have outside : f.id.toNat / 4096 % 16 = 0 ∨ 9 ≤ f.id.toNat / 4096 % 16 := by
      rcases dropped with e | e | e | e | e
      · exact absurd extended (by simp [e])
      · exact absurd e data
      · exact absurd own e
      · exact absurd zero e
      · exact e
    generalize f.id.toNat / 4096 % 16 = k at outside
    split
    case h_9 => rfl
    all_goals omega
  · rw [if_neg kept]

/-- What the filter of R26 reads in an identifier of a requester. -/
theorem vehicleId_fields {tag : Half} (small : tag.toNat < 8192) (kind node handle : BitVec 4) :
    let id := vehicleId tag kind node handle
    (id >>> 16).setWidth 16 = tag ∧ id.setWidth 4 = 0#4 ∧ (id >>> 12).setWidth 4 = kind ∧ (id >>> 8).setWidth 4 = node
    ∧ (id >>> 4).setWidth 4 = handle := by
  have value := toNat_vehicleId kind node handle small
  have lk := kind.isLt
  have ln := node.isLt
  have lh := handle.isLt
  refine ⟨?_, ?_, ?_, ?_, ?_⟩ <;>
    (apply BitVec.eq_of_toNat_eq
     simp only [BitVec.toNat_setWidth, BitVec.toNat_ushiftRight, Nat.shiftRight_eq_div_pow, value, BitVec.toNat_ofNat]
     omega)

/-! ## The chassis transmit slots (R124) -/

theorem ChassisTx.lowestOffered_of_first {c : ChassisTx} {k : Fin 4} (first : firstOffered c k) : c.lowestOffered = some k :=
  find_finRange_eq_some (Option.isSome_iff_ne_none.2 first.1) fun j lower => by rw [first.2 j lower, Option.isSome_none]

/-- A frame handed to a slot (R124). -/
def TxSlot.taking (x : TxSlot) (f : ChassisFrame) : TxSlot :=
  if x.begun = true then { x with behind := some f } else { x with front := some f }

theorem ChassisTx.handOver_slot (c : ChassisTx) (k j : Fin 4) (f : ChassisFrame) :
    (c.handOver k f).slots[j] = if k = j then c.slots[k].taking f else c.slots[j] := c.handOver_slots k j f

/-- What the link may have done to a slot up to a hand-over. -/
theorem State.settleOnAir_slot (s : State) (k : Fin 4) :
    let y := s.settleOnAir.chassisTx.slots[k]
    y.front = s.chassisTx.slots[k].front ∧ y.behind = s.chassisTx.slots[k].behind
    ∧ (y.begun = s.chassisTx.slots[k].begun
      ∨ y.begun = true ∧ s.settleOnAir.chassisTx.onAir = some k ∧ firstOffered s.chassisTx k) := by
  unfold State.settleOnAir
  split
  · exact ⟨rfl, rfl, .inl rfl⟩
  next j offered =>
    rcases s.chassisTx.settled_cases j (Config.transmissionLost s.freeCount) (Config.transmissionBegun s.freeCount) with e | e | e
    · rw [e]; exact ⟨rfl, rfl, .inl rfl⟩
    · rw [e]; exact ⟨rfl, rfl, .inl rfl⟩
    · rw [e]
      dsimp only
      rw [getElem_set_fin]
      split_ifs with own
      · subst own
        exact ⟨rfl, rfl, .inr ⟨rfl, rfl, ChassisTx.lowestOffered_some offered⟩⟩
      · exact ⟨rfl, rfl, .inl rfl⟩

/-- What the link may have on it at a hand-over. -/
theorem State.settleOnAir_onAir (s : State) :
    let c := s.settleOnAir.chassisTx
    c.onAir = s.chassisTx.onAir ∨ c.onAir = none
      ∨ ∃ k : Fin 4, c.onAir = some k ∧ c.slots[k].begun = true ∧ firstOffered s.chassisTx k := by
  unfold State.settleOnAir
  split
  · exact .inl rfl
  next j offered =>
    rcases s.chassisTx.settled_cases j (Config.transmissionLost s.freeCount) (Config.transmissionBegun s.freeCount) with e | e | e
    · rw [e]; exact .inl rfl
    · rw [e]; exact .inr (.inl rfl)
    · rw [e]
      exact .inr (.inr ⟨j, rfl, by simp, ChassisTx.lowestOffered_some offered⟩)

theorem ChassisTx.handOver_if_slot (c : ChassisTx) (b : Bool) (k j : Fin 4) (f : ChassisFrame) :
    (if b then c.handOver k f else c).slots[j] = if k = j ∧ b = true then c.slots[j].taking f else c.slots[j] := by
  cases b
  · simp
  · simp only [if_true, and_true, ChassisTx.handOver_slot]
    split_ifs with same
    · rw [same]
    · rfl

/-- The three hand-overs of AXLE frames. -/
theorem ChassisTx.foldl_handOver_slot (configured : AxleId → Bool) (f : AxleId → ChassisFrame) (c : ChassisTx) :
    let d := (List.finRange 3).foldl (fun c j => if configured j then c.handOver (axleKind j) (f j) else c) c
    d.onAir = c.onAir ∧ d.slots[(0 : Fin 4)] = c.slots[(0 : Fin 4)]
    ∧ ∀ j : AxleId, d.slots[j.succ] = if configured j then c.slots[j.succ].taking (f j) else c.slots[j.succ] := by
  have each : List.finRange 3 = [0, 1, 2] := rfl
  rw [each, List.foldl_cons, List.foldl_cons, List.foldl_cons, List.foldl_nil]
  unfold axleKind
  dsimp only
  refine ⟨?_, ?_, fun j => ?_⟩
  · split_ifs <;> rfl
  · rw [ChassisTx.handOver_if_slot, ChassisTx.handOver_if_slot, ChassisTx.handOver_if_slot]
    simp
  · rw [ChassisTx.handOver_if_slot, ChassisTx.handOver_if_slot, ChassisTx.handOver_if_slot]
    simp only [Fin.succ_inj]
    fin_cases j <;> simp

theorem State.handSetPoints_slots (s : State) :
    let c := s.settleOnAir.chassisTx
    let d := s.handSetPoints.chassisTx
    d.onAir = c.onAir ∧ d.slots[(0 : Fin 4)] = c.slots[(0 : Fin 4)].taking (retExhFrame s.app.last s.app.passCount)
    ∧ ∀ j : AxleId, d.slots[j.succ] =
      if s.settings.axleConfigured j then c.slots[j.succ].taking (axleFrame j s.app.last s.app.passCount)
      else c.slots[j.succ] := by
  have frame := s.settleOnAir_frame
  have settings : s.settleOnAir.settings = s.settings := by rw [frame]
  have app : s.settleOnAir.app = s.app := by rw [frame]
  unfold State.handSetPoints
  dsimp only
  rw [settings, app]
  obtain ⟨air, first, axles⟩ := ChassisTx.foldl_handOver_slot s.settings.axleConfigured
    (fun j => axleFrame j s.app.last s.app.passCount)
    (s.settleOnAir.chassisTx.handOver 0 (retExhFrame s.app.last s.app.passCount))
  refine ⟨air, first.trans ?_, fun j => (axles j).trans ?_⟩
  · rw [ChassisTx.handOver_slot, if_pos rfl]
  · rw [ChassisTx.handOver_slot, if_neg (Fin.succ_ne_zero j).symm]

/-! ## The SUMMARY pair (R52) -/

variable {a b : VehicleFrame}

theorem replacePair_cons {z : VehicleFrame} (other : z.kind ≠ 0xC) {l : List VehicleFrame} (some : l ≠ []) :
    replacePair a b (z :: l) = (replacePair a b l).map (z :: ·) := by
  cases l with
  | nil => exact absurd rfl some
  | cons y rest => rw [replacePair, if_neg fun e => other e.1]

/-- The first complete pair is replaced. -/
theorem replacePair_append {front : List VehicleFrame} (others : ∀ z ∈ front, z.kind ≠ 0xC) {x y : VehicleFrame}
    (hx : x.kind = 0xC) (hy : y.kind = 0xD) (back : List VehicleFrame) :
    replacePair a b (front ++ x :: y :: back) = some (front ++ a :: b :: back) := by
  induction front with
  | nil => rw [List.nil_append, replacePair, if_pos ⟨hx, hy⟩, List.nil_append]
  | cons z front ih =>
    rw [List.cons_append, replacePair_cons (others z List.mem_cons_self) (by simp),
      ih fun w hw => others w (List.mem_cons_of_mem z hw), Option.map_some, List.cons_append]

theorem replacePair_eq_none {l : List VehicleFrame}
    (noPair : ∀ (front : List VehicleFrame) (x y : VehicleFrame) (back : List VehicleFrame), l = front ++ x :: y :: back →
      ¬ (x.kind = 0xC ∧ y.kind = 0xD)) : replacePair a b l = none := by
  induction l with
  | nil => rfl
  | cons z l ih =>
    cases l with
    | nil => rfl
    | cons y rest =>
      rw [replacePair, if_neg (noPair [] z y rest rfl), Option.map_eq_none_iff]
      exact ih fun front x w back e => noPair (z :: front) x w back (by rw [e, List.cons_append])

/-! ## Health frames (R83) -/

theorem healthOfCode_eq {code : Byte} {v : Health}
    (named : code = 0 ∧ v = .ok ∨ code = 1 ∧ v = .degraded ∨ code = 2 ∧ v = .fault) : healthOfCode code = some v := by
  rcases named with ⟨rfl, rfl⟩ | ⟨rfl, rfl⟩ | ⟨rfl, rfl⟩ <;> rfl

theorem healthOfCode_eq_none {code : Byte} (other : 2 < code.toNat) : healthOfCode code = none := by
  unfold healthOfCode
  split
  case h_4 => rfl
  all_goals omega

theorem healthSourceOf_axle (t : Settings) {actuator : Byte} {j : AxleId} (named : actuator.toNat = 2 + j.val) :
    healthSourceOf t actuator = if t.axleConfigured j then some (.modulator j) else none := by
  unfold healthSourceOf
  rw [named]
  fin_cases j <;> rfl

theorem healthSourceOf_eq_none {t : Settings} {actuator : Byte} (other : 4 < actuator.toNat) : healthSourceOf t actuator = none := by
  unfold healthSourceOf
  split
  case h_6 => rfl
  all_goals omega

theorem State.takeHealth_of_source {actuator code : Byte} (mode : s.ctl.mode ≠ .setup) {x : HealthSource} {v : Health}
    (source : healthSourceOf s.settings actuator = some x) (value : healthOfCode code = some v) :
    s.takeHealth actuator code
      = { s with health := s.health.put x { value := v, timer := some s.settings.statusTimeout.toNat } } := by
  unfold State.takeHealth
  rw [if_neg mode, source, value]

theorem State.takeHealth_ignored {actuator code : Byte}
    (ignored : s.ctl.mode = .setup ∨ healthSourceOf s.settings actuator = none ∨ healthOfCode code = none) :
    s.takeHealth actuator code = s := by
  unfold State.takeHealth
  split_ifs with setup
  · rfl
  · split
    next source value =>
      rcases ignored with e | e | e
      · exact absurd e setup
      · rw [source] at e; cases e
      · rw [value] at e; cases e
    · rfl

end Sys2Proof.Machine

namespace Sys2Proof.Proofs
open Sys2Proof.Machine Sys2Proof.Claims

/-- Settles O25. -/
theorem framesSent : Obligations.FramesSent := by
  unfold Obligations.FramesSent
  refine ⟨fun s f rest running queue => ?_, fun s j running law first => ?_⟩
  · rw [exec_running rfl running]
    simp only [taken, queue, List.tail_cons]
  · have offered := ChassisTx.lowestOffered_of_first first
    obtain ⟨k, which, sent⟩ := s.chassisTx.sent_cases (Config.transmissionLost s.freeCount) offered
    refine ⟨k, s.freeCount + 1, which, ?_, ?_⟩
    · rcases which with rfl | air
      · exact first.1
      · obtain ⟨-, begun, onAir⟩ := law k
        exact Option.isSome_iff_ne_none.1 (begun (onAir air))
    · rw [exec_running rfl running]
      simp only [taken, State.chassisSent, offered, sent]

/-- Settles O26, by the first complete pair behind the head. -/
theorem summaryPlacement : Obligations.SummaryPlacement := by
  unfold Obligations.SummaryPlacement
  refine ⟨fun s a b small => ?_, fun s a b => ⟨fun head front x y back queue hx hy others => ?_, fun noPair => ?_⟩⟩
  · refine ⟨_, _, rfl, ?_, rfl, ?_, rfl⟩
    · simp [toNat_vehicleId _ _ _ small]
    · simp [toNat_vehicleId _ _ _ small]
  · unfold State.placeSummary
    rw [queue]
    simp only [replacePair_append others hx hy]
  · have joins : s.enqueue [a, b]
        = { s with vehicleTx := if s.vehicleTx.length ≤ 14 then s.vehicleTx ++ [a, b] else s.vehicleTx } := by
      have room : s.vehicleTx.length + [a, b].length ≤ 16 ↔ s.vehicleTx.length ≤ 14 := Nat.add_le_add_iff_right
      rw [State.enqueue_eq, joined]
      simp only [room]
    rw [← joins]
    unfold State.placeSummary
    rcases queue : s.vehicleTx with _ | ⟨head, rest⟩
    · rfl
    · rw [queue, List.tail_cons] at noPair
      simp only [replacePair_eq_none noPair]

/-- Settles O27: what the link has done, then one hand-over per frame. -/
theorem setPointFramesHanded : Obligations.SetPointFramesHanded := by
  unfold Obligations.SetPointFramesHanded
  intro s t count half put
  obtain ⟨air, first, axles⟩ := s.handSetPoints_slots
  have bytes (x : Nat) : halfOf x = half x := by
    have low : byte (x % 256) = byte x := BitVec.eq_of_toNat_eq (by simp)
    rw [halfOf_eq, ← low]
  have begun (k : Fin 4) : t.chassisTx.slots[k].begun = s.settleOnAir.chassisTx.slots[k].begun := by
    cases k using Fin.cases with
    | zero => rw [first, TxSlot.taking]; split_ifs <;> rfl
    | succ j => rw [axles, TxSlot.taking]; split_ifs <;> rfl
  have placed (k : Fin 4) {f : ChassisFrame} (taken : t.chassisTx.slots[k] = s.settleOnAir.chassisTx.slots[k].taking f) :
      put k f := by
    obtain ⟨front, behind, -⟩ := s.settleOnAir_slot k
    simp only [put, taken, TxSlot.taking]
    split_ifs with started
    · exact .inl ⟨started, rfl, front⟩
    · exact .inr ⟨by simpa using started, rfl, behind⟩
  refine ⟨s.handSetPoints_frame, fun k => ?_, ?_, fun _ => ?_, fun j => ⟨fun configured _ => ?_, fun other => ?_⟩⟩
  · rw [begun, air]
    exact (s.settleOnAir_slot k).2.2
  · rw [air]
    rcases s.settleOnAir_onAir with e | e | ⟨k, e, started, lowest⟩
    · exact .inl e
    · exact .inr (.inl e)
    · exact .inr (.inr ⟨k, e, (begun k).trans started, lowest⟩)
  · rw [← bytes]
    exact placed 0 first
  · have taken := axles j
    rw [if_pos configured] at taken
    have frame := placed j.succ taken
    rw [axleFrame, bytes, BitVec.ofNat_add] at frame
    exact frame
  · obtain ⟨front, behind, -⟩ := s.settleOnAir_slot j.succ
    have same := axles j
    rw [if_neg (by simp [other])] at same
    rw [same]
    exact ⟨front, behind⟩

/-- Settles O22. -/
theorem framesFiltered : Obligations.FramesFiltered := by
  unfold Obligations.FramesFiltered
  refine ⟨fun s f dropped => ?_, fun s f dropped => ?_, fun a b c d e f g h more => ?_, fun tag n h data small => ?_⟩
  · have ignored : s.takeVehicleFrame f = s := by
      rw [State.takeVehicleFrame, decodeVehicleFrame_eq_none dropped]
    rw [exec_eq_taken rfl, State.outsideReset]
    simp only [taken, ignored, ite_self]
  · have ignored : decodeChassisFrame f = none := by
      unfold decodeChassisFrame
      rcases dropped with e | e | ⟨a, b, health⟩
      · rw [if_pos (.inl e)]
      · rw [if_pos (.inr e)]
      · rw [if_neg a, if_neg b, if_neg health, ite_self]
    have same : s.takeChassisFrame f = s := by
      rw [State.takeChassisFrame, ignored]
    rw [exec_eq_taken rfl, State.outsideReset]
    simp only [taken, same, ite_self]
  · refine ⟨?_, ?_, ?_⟩ <;> simp [decodeChassisFrame, halfAt, byteAt]
  · intro read
    have sender : ∀ lt : (BitVec.ofNat 4 n.val).toNat < 16, (⟨(BitVec.ofNat 4 n.val).toNat, lt⟩ : Node) = n := fun _ =>
      Fin.ext (by simp)
    have field : ∀ lt : (BitVec.ofNat 4 h.val).toNat < 16, (⟨(BitVec.ofNat 4 h.val).toNat, lt⟩ : HandleField) = h := fun _ =>
      Fin.ext (by simp)
    simp only [read, decodeVehicleFrame, vehicleId_fields small, sender, field]
    simp

/-- Settles O31. -/
theorem sampleFramesStoredOrDropped : Obligations.SampleFramesStoredOrDropped := by
  unfold Obligations.SampleFramesStoredOrDropped
  intro s ts v n ratio oil ambient l0 l1 l2 running
  rw [exec_running rfl running, exec_running rfl running]
  simp only [taken]
  refine ⟨fun setup => ?_, fun mode => ?_, fun mode other => ?_, fun mode a pending same nothing => ?_⟩
  · rw [State.takeFrameA, State.takeFrameB, if_pos setup, if_pos setup]
    exact ⟨rfl, rfl⟩
  · rw [State.takeFrameA, if_neg mode]
  · rw [State.takeFrameB, if_neg mode]
    rcases pending : s.intake.pendingA with _ | a
    · rfl
    · simp only [if_neg (other a pending)]
  · rw [State.takeFrameB, if_neg mode, Option.mem_def.1 pending]
    simp only [if_pos same]
    have none : ({ s with intake := { s.intake with pendingA := none } } : State).completeSample a
        { ts := ts, oil := oil, ambient := ambient, loads := #v[l0, l1, l2] } = none := by
      unfold State.completeSample deltaT
      rcases nothing with used | fast
      · simp [used, same]
      · split
        · rfl
        · rw [if_neg (Nat.not_le.2 fast)]
    simp only [none]

/-- Settles O33. -/
theorem healthFrameRecorded : Obligations.HealthFrameRecorded := by
  unfold Obligations.HealthFrameRecorded
  intro s actuator code v running e named
  rw [exec_running rfl running]
  simp only [taken]
  refine ⟨fun mode code retarder => ?_, fun mode code exhaust => ?_, fun j mode code modulator configured => ?_, fun ignored => ?_⟩
  · rw [State.takeHealth_of_source mode (x := .retarder) (by rw [retarder]; rfl) (healthOfCode_eq code)]
    rfl
  · rw [State.takeHealth_of_source mode (x := .exhaust) (by rw [exhaust]; rfl) (healthOfCode_eq code)]
    rfl
  · rw [State.takeHealth_of_source mode ((healthSourceOf_axle _ modulator).trans (if_pos configured)) (healthOfCode_eq code)]
    rfl
  · refine congrArg _ (State.takeHealth_ignored ?_)
    rcases ignored with setup | code | actuator | ⟨j, modulator, free⟩
    · exact .inl setup
    · exact .inr (.inr (healthOfCode_eq_none code))
    · exact .inr (.inl (healthSourceOf_eq_none actuator))
    · exact .inr (.inl ((healthSourceOf_axle _ modulator).trans (if_neg (by simp [free]))))

end Sys2Proof.Proofs
end

section
/-! PROOF. One millisecond: the countdowns of the part set apart from the rest of its state, and what a millisecond does to them
while none, or one alone, comes to its end (log entries 1 and 2). -/

namespace Sys2Proof.Machine
open Sys2Proof.Claims

variable {s t : State} {f g : Timer → Option Nat} {c d : Timer} {i j : SlotId}

/-! ## The countdowns set apart -/

/-- The state with the countdowns f. -/
def State.timed (s : State) (f : Timer → Option Nat) : State :=
  { s with
    demand := { s.demand with slots := Vector.ofFn fun i => { s.slot i with countdown := f (.slot i) } }
    latches := Vector.ofFn fun n => { s.latches[n] with hold := f (.latch n) }
    health :=
      { retarder := { s.health.retarder with timer := f (.status .retarder) }
        exhaust := { s.health.exhaust with timer := f (.status .exhaust) }
        modulator := Vector.ofFn fun j => { s.health.modulator[j] with timer := f (.status (.modulator j)) } }
    intake := { s.intake with timer := f .sample }
    ctl := { s.ctl with lossHold := f .lossHold } }

/-- One ms less. -/
abbrev fallen (k : Option Nat) : Option Nat := k.map fun k => k - 1

theorem lessOne_eq (s : State) : lessOne s = s.timed fun d => fallen (left s d) := rfl

theorem State.timed_slot (s : State) (f : Timer → Option Nat) (i : SlotId) :
    (s.timed f).slot i = { s.slot i with countdown := f (.slot i) } := by simp [State.timed, State.slot]

theorem State.timed_record (s : State) (f : Timer → Option Nat) (i : SlotId) : (s.timed f).record i = s.record i := by
  rw [State.record_eq, State.timed_slot]
  rfl

theorem State.timed_latch (s : State) (f : Timer → Option Nat) (n : Node) :
    (s.timed f).latches[n] = { s.latches[n] with hold := f (.latch n) } := by simp [State.timed]

theorem State.timed_entry (s : State) (f : Timer → Option Nat) (x : HealthSource) :
    (s.timed f).health.entry x = { s.health.entry x with timer := f (.status x) } := by
  cases x <;> simp [State.timed, HealthMonitor.entry]

theorem left_timed (s : State) (f : Timer → Option Nat) (d : Timer) : left (s.timed f) d = f d := by
  cases d with
  | slot i => rw [left, State.timed_slot]
  | latch n => rw [left, State.timed_latch]
  | status x => rw [left, State.timed_entry]
  | sample => rfl
  | lossHold => rfl

theorem HealthMonitor.ext_entry {h k : HealthMonitor} (same : ∀ x, h.entry x = k.entry x) : h = k := by
  obtain ⟨a, b, m⟩ := h
  obtain ⟨a', b', m'⟩ := k
  have ret : a = a' := same .retarder
  have exh : b = b' := same .exhaust
  have modulator : m = m' := by
    ext j hj : 1
    exact same (.modulator ⟨j, hj⟩)
  rw [ret, exh, modulator]

theorem State.timed_left (s : State) : s.timed (left s) = s := by
  have slots : s.demand.slots = Vector.ofFn fun i => { s.slot i with countdown := left s (.slot i) } := slots_eq_ofFn fun i => rfl
  have latches : s.latches = Vector.ofFn fun n => { s.latches[n] with hold := left s (.latch n) } := by
    ext n hn : 1
    simp [left]
  have modulators : s.health.modulator
      = Vector.ofFn fun j => { s.health.modulator[j] with timer := left s (.status (.modulator j)) } := by
    ext j hj : 1
    simp [left, HealthMonitor.entry]
  unfold State.timed
  rw [← slots, ← latches, ← modulators]
  rfl

theorem set_ofFn {α : Type} {n : Nat} (v : Fin n → α) (i : Fin n) (x : α) :
    (Vector.ofFn v).set i x = Vector.ofFn (Function.update v i x) := by
  ext j hj : 1
  simp only [Vector.getElem_ofFn]
  by_cases same : (⟨j, hj⟩ : Fin n) = i
  · subst same
    simp
  · have ne : ¬ (i : Nat) = j := fun e => same (Fin.ext e.symm)
    rw [Vector.getElem_set_ne _ _ ne, Vector.getElem_ofFn, Function.update_of_ne same]

/-! ## A countdown that has 2 ms or more left -/

/-- One millisecond of a countdown. -/
def State.tickOne (s : State) : Timer → State
  | .slot i => s.tickSlot i
  | .latch n => s.tickLatch n
  | .status x => s.tickStatus x
  | .lossHold => s.tickLossHold
  | .sample => s.tickSample

theorem countDown_of_two_le {k : Nat} (le : 2 ≤ k) : countDown k = some (k - 1) := if_neg (by omega)

theorem State.putSlot_timed (s : State) (f : Timer → Option Nat) (i : SlotId) (k : Option Nat) :
    (s.timed f).putSlot i { (s.timed f).slot i with countdown := k } = s.timed (Function.update f (.slot i) k) := by
  rw [State.timed_slot]
  unfold State.putSlot State.timed
  simp only [set_ofFn]
  have slots : (Function.update (fun i => ({ s.slot i with countdown := f (.slot i) } : Slot)) i { s.slot i with countdown := k })
      = fun j => { s.slot j with countdown := Function.update f (.slot i) k (.slot j) } := by
    funext j
    by_cases same : j = i
    · subst same; simp
    · simp [same]
  rw [slots]
  simp

theorem State.setHold_timed (s : State) (f : Timer → Option Nat) (n : Node) (k : Option Nat) :
    { s.timed f with latches := (s.timed f).latches.set n { (s.timed f).latches[n] with hold := k } }
      = s.timed (Function.update f (.latch n) k) := by
  rw [State.timed_latch]
  unfold State.timed
  simp only [set_ofFn]
  have latches : (Function.update (fun n => ({ s.latches[n] with hold := f (.latch n) } : Latch)) n { s.latches[n] with hold := k })
      = fun m => { s.latches[m] with hold := Function.update f (.latch n) k (.latch m) } := by
    funext m
    by_cases same : m = n
    · subst same; simp
    · simp [same]
  rw [latches]
  simp

theorem State.setStatus_timed (s : State) (f : Timer → Option Nat) (x : HealthSource) (k : Option Nat) :
    { s.timed f with health := (s.timed f).health.put x { (s.timed f).health.entry x with timer := k } }
      = s.timed (Function.update f (.status x) k) := by
  have health : (s.timed f).health.put x { (s.timed f).health.entry x with timer := k }
      = (s.timed (Function.update f (.status x) k)).health := by
    refine HealthMonitor.ext_entry fun y => ?_
    rw [HealthMonitor.put_entry, State.timed_entry, State.timed_entry, State.timed_entry]
    split_ifs with same
    · subst same; simp
    · have ne : Timer.status y ≠ .status x := fun e => same (Timer.status.inj e).symm
      rw [Function.update_of_ne ne]
  rw [health]
  unfold State.timed
  simp

theorem State.tickOne_timed (long : ∀ k ∈ f d, 2 ≤ k) :
    (s.timed f).tickOne d = s.timed (Function.update f d (fallen (f d))) := by
  have runs := left_timed s f d
  rcases stopped : f d with _ | k
  · rw [stopped] at runs
    have same : Function.update f d (fallen none) = f := by rw [← stopped]; simp [stopped]
    rw [same]
    cases d with
    | slot i => rw [State.tickOne, State.tickSlot, show ((s.timed f).slot i).countdown = none from runs]
    | latch n => rw [State.tickOne, State.tickLatch, show (s.timed f).latches[n].hold = none from runs]
    | status x => rw [State.tickOne, State.tickStatus, show ((s.timed f).health.entry x).timer = none from runs]
    | lossHold => rw [State.tickOne, State.tickLossHold, show (s.timed f).ctl.lossHold = none from runs]
    | sample => rw [State.tickOne, State.tickSample, show (s.timed f).intake.timer = none from runs]
  · rw [stopped] at runs
    have down := countDown_of_two_le (long k stopped)
    cases d with
    | slot i =>
      rw [State.tickOne, State.tickSlot, show ((s.timed f).slot i).countdown = some k from runs]
      simp only [down]
      exact s.putSlot_timed f i _
    | latch n =>
      rw [State.tickOne, State.tickLatch, show (s.timed f).latches[n].hold = some k from runs]
      simp only [down]
      exact s.setHold_timed f n _
    | status x =>
      rw [State.tickOne, State.tickStatus, show ((s.timed f).health.entry x).timer = some k from runs]
      simp only [down]
      exact s.setStatus_timed f x _
    | lossHold =>
      rw [State.tickOne, State.tickLossHold, show (s.timed f).ctl.lossHold = some k from runs]
      simp only [down]
      unfold State.timed
      simp
    | sample =>
      rw [State.tickOne, State.tickSample, show (s.timed f).intake.timer = some k from runs]
      simp only [down]
      unfold State.timed
      simp

/-- Countdowns that have 2 ms or more left fall by one, one after the other. -/
theorem State.foldl_tickOne_timed {l : List Timer} (nodup : l.Nodup) (long : ∀ d ∈ l, ∀ k ∈ f d, 2 ≤ k) :
    l.foldl State.tickOne (s.timed f) = s.timed fun d => if d ∈ l then fallen (f d) else f d := by
  induction l generalizing f with
  | nil => simp
  | cons d l ih =>
    obtain ⟨fresh, nodup⟩ := List.nodup_cons.1 nodup
    rw [List.foldl_cons, State.tickOne_timed (long d List.mem_cons_self), ih nodup]
    · congr 1
      funext e
      by_cases same : e = d
      · subst same; simp [fresh]
      · simp [same]
    · intro e he
      have ne : e ≠ d := fun same => fresh (same ▸ he)
      rw [Function.update_of_ne ne]
      exact long e (List.mem_cons_of_mem d he)

/-! ## The order of the countdowns in a millisecond -/

/-- The countdowns but that of the samples, in the order in which a millisecond passes for them. -/
def timersBeforeSample : List Timer :=
  (List.finRange 24).map Timer.slot ++ (List.finRange 16).map Timer.latch ++ healthSources.map Timer.status ++ [.lossHold]

theorem tick_eq_foldl (running : s.inReset = false) : s.tick = (timersBeforeSample ++ [Timer.sample]).foldl State.tickOne s := by
  simp only [timersBeforeSample, List.foldl_append, List.foldl_map, List.foldl_cons, List.foldl_nil, State.tick, running,
    Bool.false_eq_true, if_false]
  rfl

theorem nodup_timers : (timersBeforeSample ++ [Timer.sample]).Nodup := by decide +kernel

theorem mem_timersBeforeSample (ne : c ≠ .sample) : c ∈ timersBeforeSample := by
  simp only [timersBeforeSample, List.mem_append, List.mem_map, List.mem_finRange, true_and, List.mem_singleton]
  cases c with
  | slot i => exact .inl (.inl (.inl ⟨i, rfl⟩))
  | latch n => exact .inl (.inl (.inr ⟨n, rfl⟩))
  | status x =>
    refine .inl (.inr ⟨x, ?_, rfl⟩)
    cases x with
    | retarder => simp [healthSources]
    | exhaust => simp [healthSources]
    | modulator j => fin_cases j <;> simp [healthSources]
  | sample => exact absurd rfl ne
  | lossHold => exact .inr rfl

theorem mem_timers (c : Timer) : c ∈ timersBeforeSample ++ [Timer.sample] := by
  by_cases sample : c = .sample
  · simp [sample]
  · exact List.mem_append_left _ (mem_timersBeforeSample sample)

/-! ## A countdown that comes to its end -/

/-- What happens at the end of a countdown. -/
def State.expire (s : State) : Timer → State
  | .slot i => if isStale s i then s.graceExpires i else s.leaseExpires i
  | .latch n => s.emptyLatch n
  | .status x => s.statusExpires x
  | .lossHold => s.lossHoldExpires
  | .sample => s.sampleTimerExpires

/-- What the end of a countdown happens to: a record, and the loss hold timer in LOSS. -/
structure State.Expires (s : State) (c : Timer) : Prop where
  record : ∀ i, c = .slot i → s.record i ≠ none
  mode   : c = .lossHold → s.ctl.mode = .loss

theorem State.Expires.timed (h : s.Expires c) (f : Timer → Option Nat) : (s.timed f).Expires c :=
  ⟨fun i e => by rw [State.timed_record]; exact h.record i e, h.mode⟩

theorem taken_expiryOf (h : s.Expires c) (runs : left s c ≠ none) : taken (expiryOf s c) s = s.expire c := by
  have runs := Option.isSome_iff_ne_none.2 runs
  cases c with
  | slot i => rw [expiryOf, State.expire, ← isStale]; split_ifs <;> rfl
  | latch n => exact if_pos runs
  | status x => exact if_pos runs
  | sample => exact if_pos runs
  | lossHold =>
    have loss : (s.ctl.mode == .loss) = true := by rw [h.mode rfl]; rfl
    exact if_pos (Bool.and_eq_true_iff.2 ⟨runs, loss⟩)

theorem State.tickOne_expire (h : s.Expires c) (last : left s c = some 1) : s.tickOne c = s.expire c := by
  have down : countDown 1 = none := rfl
  cases c with
  | slot i =>
    obtain ⟨r, hr⟩ := Option.ne_none_iff_exists'.1 (h.record i rfl)
    rw [State.tickOne, State.tickSlot, show (s.slot i).countdown = some 1 from last]
    simp only [down, State.expire, isStale_eq hr, hr, Option.any_some]
    cases r.live <;> rfl
  | latch n =>
    rw [State.tickOne, State.tickLatch, show s.latches[n].hold = some 1 from last]
    rfl
  | status x =>
    rw [State.tickOne, State.tickStatus, show (s.health.entry x).timer = some 1 from last]
    rfl
  | sample =>
    rw [State.tickOne, State.tickSample, show s.intake.timer = some 1 from last]
    rfl
  | lossHold =>
    rw [State.tickOne, State.tickLossHold, show s.ctl.lossHold = some 1 from last]
    simp only [down, h.mode rfl, if_true]
    rfl

theorem realigned_timed (x : Slot) (before now : Bool) (k : Option Nat) :
    realigned before now { x with countdown := k } = { realigned before now x with countdown := k } := by
  obtain ⟨_ | r, version, countdown, mark⟩ := x
  · rfl
  · unfold realigned
    dsimp only
    split_ifs <;> rfl

/-- A departure does not read the countdowns. -/
theorem State.depart_timed (s : State) (f : Timer → Option Nat) (i : SlotId) : (s.timed f).depart i = (s.depart i).timed f := by
  have collision (l : List SlotId) : holdsCollisionRecord (s.timed f) l = holdsCollisionRecord s l :=
    holdsCollisionRecord_congr fun j _ => by rw [State.timed_record]
  have arbiter : ((s.timed f).depart i).arbiter = (s.depart i).arbiter := by
    rw [State.depart_arbiter, State.depart_arbiter, collision]
    rfl
  have slots (j : SlotId) : ((s.timed f).depart i).slot j = { (s.depart i).slot j with countdown := f (.slot j) } := by
    have same : (s.timed f).arbiter = s.arbiter := rfl
    rw [State.depart_slot, arbiter, State.depart_slot, ← realigned_timed, State.timed_slot, same]
    congr 1
    split_ifs <;> rfl
  have frame := (s.timed f).depart_frame i
  rw [arbiter, slots_eq_ofFn slots] at frame
  rw [frame]
  have frame := s.depart_frame i
  generalize s.depart i = t at frame ⊢
  rw [frame]
  rfl

theorem State.putSlot_timed_update (s : State) (f : Timer → Option Nat) (i : SlotId) (y : Slot) :
    (s.timed f).putSlot i y = (s.putSlot i y).timed (Function.update f (.slot i) y.countdown) := by
  have slots : ((s.timed f).putSlot i y).demand.slots
      = Vector.ofFn fun j =>
          { (s.putSlot i y).slot j with countdown := Function.update f (.slot i) y.countdown (.slot j) } :=
    slots_eq_ofFn fun j => by
      rw [State.putSlot_slot, State.putSlot_slot, State.timed_slot]
      split_ifs with same
      · subst same; simp
      · have ne : Timer.slot j ≠ .slot i := fun e => same (Timer.slot.inj e).symm
        rw [Function.update_of_ne ne]
  have frame : (s.timed f).putSlot i y
      = { s.timed f with demand := { (s.timed f).demand with slots := ((s.timed f).putSlot i y).demand.slots } } := rfl
  rw [frame, slots]
  unfold State.timed
  simp only [ne_eq, reduceCtorEq, not_false_eq_true, Function.update_of_ne]
  rfl

theorem State.clearMonitorsOf_timed (s : State) (f : Timer → Option Nat) (i : SlotId) :
    (s.timed f).clearMonitorsOf i = (s.clearMonitorsOf i).timed f := rfl

theorem State.freeSlot_timed (s : State) (f : Timer → Option Nat) (i : SlotId) :
    (s.timed f).freeSlot i = (s.freeSlot i).timed (Function.update f (.slot i) none) := by
  have own : ({ (s.timed f).slot i with record := none, countdown := none, mark := false } : Slot)
      = { s.slot i with record := none, countdown := none, mark := false } := by rw [State.timed_slot]
  unfold State.freeSlot
  rw [own, State.putSlot_timed_update]
  rfl

theorem State.leaseExpires_timed {r : Record} (hr : s.record i = some r) (live : r.live = true) (f : Timer → Option Nat) :
    (s.timed f).leaseExpires i = (s.leaseExpires i).timed (Function.update f (.slot i) (left (s.leaseExpires i) (.slot i))) := by
  have hr' : (s.timed f).record i = some r := by rw [State.timed_record, hr]
  unfold State.leaseExpires
  simp only [hr, hr', live, if_true]
  have own : ({ ((s.timed f).slot i).enter .stale with
      countdown := some (10 * ((s.timed f).settings.row r.cls).grace.toNat) } : Slot)
      = { (s.slot i).enter .stale with countdown := some (10 * (s.settings.row r.cls).grace.toNat) } := by
    rw [State.timed_slot]
    rfl
  rw [own]
  generalize ({ (s.slot i).enter .stale with countdown := some (10 * (s.settings.row r.cls).grace.toNat) } : Slot) = y
  have starts : left (((s.putSlot i y).clearMonitorsOf i).depart i) (.slot i) = y.countdown := by
    have own : ((s.putSlot i y).clearMonitorsOf i).slot i = y := (s.putSlot_slot i i y).trans (if_pos rfl)
    rw [left, State.depart_slot, realigned_countdown, own]
    split_ifs <;> rfl
  rw [starts, State.putSlot_timed_update, State.clearMonitorsOf_timed, State.depart_timed]

theorem State.emptyLatch_timed (s : State) (f : Timer → Option Nat) (n : Node) :
    (s.timed f).emptyLatch n = (s.emptyLatch n).timed (Function.update f (.latch n) none) := by
  have latches : (s.timed f).latches.set n .empty
      = Vector.ofFn fun m => { (s.emptyLatch n).latches[m] with hold := Function.update f (.latch n) none (.latch m) } := by
    ext m hm : 1
    rw [Vector.getElem_ofFn]
    change ((s.timed f).latches.set n .empty)[(⟨m, hm⟩ : Node)] = _
    rw [getElem_set_fin, State.emptyLatch, getElem_set_fin, State.timed_latch]
    split_ifs with same
    · subst same; simp [Latch.empty]
    · have ne : Timer.latch ⟨m, hm⟩ ≠ .latch n := fun e => same (Timer.latch.inj e).symm
      rw [Function.update_of_ne ne]
  unfold State.emptyLatch at latches ⊢
  rw [latches]
  unfold State.timed
  simp only [ne_eq, reduceCtorEq, not_false_eq_true, Function.update_of_ne]
  rfl

theorem State.statusExpires_timed (s : State) (f : Timer → Option Nat) (x : HealthSource) :
    (s.timed f).statusExpires x = (s.statusExpires x).timed (Function.update f (.status x) none) := by
  have health : (s.timed f).health.put x .silent = ((s.statusExpires x).timed (Function.update f (.status x) none)).health := by
    refine HealthMonitor.ext_entry fun y => ?_
    rw [HealthMonitor.put_entry, State.timed_entry, State.timed_entry, State.statusExpires, HealthMonitor.put_entry]
    split_ifs with same
    · subst same; simp [HealthEntry.silent]
    · have ne : Timer.status y ≠ .status x := fun e => same (Timer.status.inj e).symm
      rw [Function.update_of_ne ne]
  have frame : (s.timed f).statusExpires x = { s.timed f with health := (s.timed f).health.put x .silent } := rfl
  rw [frame, health]
  unfold State.timed
  simp only [ne_eq, reduceCtorEq, not_false_eq_true, Function.update_of_ne]
  rfl

theorem State.expire_of_live {r : Record} (hr : s.record i = some r) (live : r.live = true) :
    s.expire (.slot i) = s.leaseExpires i := by
  rw [State.expire, isStale_eq hr, live]
  rfl

theorem State.expire_of_stale {r : Record} (hr : s.record i = some r) (dead : r.live = false) :
    s.expire (.slot i) = s.freeSlot i := by
  have stale : isStale s i = true := by rw [isStale_eq hr, dead]; rfl
  rw [State.expire, if_pos stale]
  exact if_pos stale

/-- The end of a countdown but that of the samples sets its own countdown alone, and reads none. -/
theorem State.expire_timed (h : s.Expires c) (ne : c ≠ .sample) (f : Timer → Option Nat) :
    (s.timed f).expire c = (s.expire c).timed (Function.update f c (left (s.expire c) c)) := by
  cases c with
  | slot i =>
    obtain ⟨r, hr⟩ := Option.ne_none_iff_exists'.1 (h.record i rfl)
    have hr' : (s.timed f).record i = some r := by rw [State.timed_record, hr]
    cases live : r.live with
    | true =>
      rw [State.expire_of_live hr' live, State.expire_of_live hr live]
      exact State.leaseExpires_timed hr live f
    | false =>
      have stops : left (s.freeSlot i) (.slot i) = none := by rw [left, State.freeSlot_slot, if_pos rfl]
      rw [State.expire_of_stale hr' live, State.expire_of_stale hr live, stops]
      exact s.freeSlot_timed f i
  | latch n =>
    have stops : left (s.emptyLatch n) (.latch n) = none := by simp [left, State.emptyLatch, Latch.empty]
    rw [State.expire, State.expire, stops]
    exact s.emptyLatch_timed f n
  | status x =>
    have stops : left (s.statusExpires x) (.status x) = none := by
      rw [left, State.statusExpires, HealthMonitor.put_entry, if_pos rfl]
      rfl
    rw [State.expire, State.expire, stops]
    exact s.statusExpires_timed f x
  | lossHold =>
    have stops : left s.lossHoldExpires .lossHold = none := rfl
    rw [State.expire, State.expire, stops]
    unfold State.lossHoldExpires State.setMode State.timed
    simp only [ne_eq, reduceCtorEq, not_false_eq_true, Function.update_of_ne, Function.update_self]
    rfl
  | sample => exact absurd rfl ne

/-! ## A millisecond -/

/-- A millisecond in which no countdown comes to its end. -/
theorem tick_of_long (running : s.inReset = false) (long : ∀ d, ∀ k ∈ left s d, 2 ≤ k) : s.tick = lessOne s := by
  rw [tick_eq_foldl running, lessOne_eq]
  nth_rewrite 1 [← s.timed_left]
  rw [State.foldl_tickOne_timed nodup_timers fun d _ => long d]
  congr 1
  funext d
  rw [if_pos (mem_timers d)]

/-- A millisecond in which the countdown c alone comes to its end, being neither that of the samples nor of a slot without a
record, nor the loss hold timer outside LOSS. -/
theorem tick_of_last (running : s.inReset = false) (last : left s c = some 1) (long : ∀ d ≠ c, ∀ k ∈ left s d, 2 ≤ k)
    (h : s.Expires c) (ne : c ≠ .sample) : s.tick = (lessOne s).expire c := by
  obtain ⟨before, after, split⟩ := List.append_of_mem (mem_timers c)
  have nodup := nodup_timers
  rw [split] at nodup
  obtain ⟨nodupBefore, nodupRest, disjoint⟩ := List.nodup_append.1 nodup
  obtain ⟨freshAfter, nodupAfter⟩ := List.nodup_cons.1 nodupRest
  have freshBefore : c ∉ before := fun mem => disjoint c mem c List.mem_cons_self rfl
  have apart (d : Timer) (mem : d ∈ after) : d ∉ before := fun other => disjoint d other d (List.mem_cons_of_mem c mem) rfl
  have all (d : Timer) : d ∈ before ∨ d = c ∨ d ∈ after := by
    have mem := mem_timers d
    rw [split] at mem
    simpa using mem
  rw [tick_eq_foldl running, split, List.foldl_append, List.foldl_cons]
  nth_rewrite 1 [← s.timed_left]
  rw [State.foldl_tickOne_timed nodupBefore fun d mem => long d fun e => freshBefore (e ▸ mem)]
  rw [State.tickOne_expire (h.timed _) (by rw [left_timed, if_neg freshBefore, last]), State.expire_timed h ne,
    State.foldl_tickOne_timed nodupAfter, lessOne_eq, State.expire_timed h ne]
  · congr 1
    funext d
    rcases all d with mem | rfl | mem
    · have ne : d ≠ c := fun e => freshBefore (e ▸ mem)
      have other : d ∉ after := fun later => apart d later mem
      simp [ne, mem, other]
    · simp [freshAfter]
    · have ne : d ≠ c := fun e => freshAfter (e ▸ mem)
      simp [ne, mem, apart d mem]
  · intro d mem
    have ne : d ≠ c := fun e => freshAfter (e ▸ mem)
    rw [Function.update_of_ne ne, if_neg (apart d mem)]
    exact long d ne

/-- A millisecond in which the sample timer alone comes to its end: it is the last to be counted down. -/
theorem tick_of_sample (running : s.inReset = false) (last : left s .sample = some 1)
    (long : ∀ d ≠ .sample, ∀ k ∈ left s d, 2 ≤ k) : s.tick = (lessOne s).sampleTimerExpires := by
  have fresh : Timer.sample ∉ timersBeforeSample := by decide +kernel
  rw [tick_eq_foldl running, List.foldl_append, List.foldl_cons, List.foldl_nil]
  nth_rewrite 1 [← s.timed_left]
  rw [State.foldl_tickOne_timed (List.nodup_append.1 nodup_timers).1 fun d mem => long d fun e => fresh (e ▸ mem)]
  have ends : s.Expires .sample := ⟨fun i e => Timer.noConfusion e, fun e => Timer.noConfusion e⟩
  rw [State.tickOne_expire (ends.timed _) (by rw [left_timed, if_neg fresh, last]), lessOne_eq]
  have same : (fun d => if d ∈ timersBeforeSample then fallen (left s d) else left s d)
      = Function.update (fun d => fallen (left s d)) .sample (some 1) := by
    funext d
    by_cases sample : d = .sample
    · subst sample; simp [fresh, last]
    · simp [sample, mem_timersBeforeSample sample]
  rw [same]
  unfold State.expire State.sampleTimerExpires State.timed
  simp only [ne_eq, reduceCtorEq, not_false_eq_true, Function.update_of_ne]

end Sys2Proof.Machine

namespace Sys2Proof.Proofs
open Sys2Proof.Machine Sys2Proof.Claims

/-- Settles O3, by the order of the countdowns: those before the one that ends have fallen, those after it fall after its event. -/
theorem quietMillisecond : Obligations.QuietMillisecond := by
  unfold Obligations.QuietMillisecond
  intro s idle running
  have stepped : step s = .next s.tick := by rw [step, idle]
  refine ⟨fun long => by rw [stepped, tick_of_long running long], fun c last long record mode => ?_⟩
  have ends : s.Expires c := ⟨record, mode⟩
  have event : expiryOf s c = expiryOf (lessOne s) c := by
    cases c <;> simp only [expiryOf, lessOne_eq, State.timed_record]
  have ends' : (lessOne s).Expires c := by
    rw [lessOne_eq]
    exact ends.timed _
  have running' : (lessOne s).inReset = false := by rw [lessOne_eq, State.timed, running]
  have runs : left (lessOne s) c ≠ none := by
    rw [lessOne_eq, left_timed, last]
    nofun
  have ordinary : aboutReset (expiryOf (lessOne s) c) = false := by
    cases c with
    | slot i => simp only [expiryOf]; split_ifs <;> rfl
    | _ => rfl
  rw [stepped, event, exec_running ordinary running', taken_expiryOf ends' runs]
  by_cases sample : c = .sample
  · subst sample
    rw [tick_of_sample running last long, State.expire]
  · rw [tick_of_last running last long ends sample]

end Sys2Proof.Proofs
end

section
/-! PROOF. The samples and the passes they start, the missed period in each mode, and the end of a pass (R73 to R81, R106, R107,
R123 to R126, R151 to R157). -/

namespace Sys2Proof.Machine
open Sys2Proof.Claims

variable {s t u : State}

/-! ## A sample that completes (R73 to R80) -/

theorem State.startPass_eq (s : State) (x : Sample) : s.startPass x = passStarted s x := by
  unfold State.startPass
  rw [State.reportPass_eq]
  unfold State.mapSlots State.newPass passStarted
  simp only [State.slot, State.record]

/-- The intake when a valid sample has completed. -/
def State.stored (s : State) (x : Sample) : State :=
  { s with intake := { s.intake with
    timer := some s.settings.sampleTimeout.toNat, lastV := some x.v, lastAmbient := x.ambient } }

theorem State.takeSample_of_free (free : s.pass = none) (x : Sample) : s.takeSample x = passStarted (s.stored x) x := by
  rw [← State.startPass_eq]
  unfold State.takeSample
  dsimp only
  split
  · rfl
  next p flies => exact absurd (flies.symm.trans free) nofun

theorem State.takeSample_of_flying (flies : s.pass ≠ none) (x : Sample) :
    s.takeSample x = { s.stored x with intake := { (s.stored x).intake with held := some x } } := by
  unfold State.takeSample
  dsimp only
  split
  next free => exact absurd free flies
  · rfl

theorem deltaT_eq {lastUsed : Option Half} {ts : Half} (fresh : lastUsed ≠ some ts) :
    deltaT lastUsed ts = some (lastUsed.elim 10 fun u => min ((ts.toNat + 65536 - u.toNat) % 65536) 50) := by
  rcases lastUsed with _ | u
  · rfl
  · have ne : ts ≠ u := fun e => fresh (by rw [e])
    have apart : (ts - u).toNat = (ts.toNat + 65536 - u.toNat) % 65536 := by
      rw [BitVec.toNat_sub]
      omega
    simp only [deltaT, if_neg ne, apart, Option.elim_some]

theorem tempOf_ambient (b : Byte) (last : Int) :
    (tempOf b 125).getD last = if b.toNat ≤ 125 then (b.toNat : Int) - 40 else last := by
  unfold tempOf
  split_ifs <;> rfl

theorem sampleLoads_eq (t : Settings) (loads : Vector Byte 3) :
    sampleLoads t loads = Vector.ofFn fun j =>
      if decide (∃ k : AxleId, t.axleConfigured k = true ∧ loads[k] = 0xFF) = true ∧ t.axleConfigured j = true then
        t.nominalMass.toNat * t.split[j].toNat / 100
      else loads[j].toNat := by
  have bad : ((List.finRange 3).any fun k => t.axleConfigured k && loads[k] == 0xFF)
      = decide (∃ k : AxleId, t.axleConfigured k = true ∧ loads[k] = 0xFF) := by
    rw [Bool.eq_iff_iff, List.any_eq_true, decide_eq_true_iff]
    simp
  unfold sampleLoads
  simp only [bad, Bool.and_eq_true]

/-! ## A missed period (R151 to R157) -/

theorem SetPoints.reissued_eq (x : SetPoints) (h : HealthMonitor) :
    x.reissued h.values =
      { ret := if h.retarder.value = .fault then 0 else x.ret
        stage :=
          if h.exhaust.value = .fault then 0
          else if h.exhaust.value = .degraded ∧ x.stage = 2 then 1 else x.stage
        pressure := Vector.ofFn fun j => if h.modulator[j].value = .fault then 0 else x.pressure[j] } := by
  unfold SetPoints.reissued HealthMonitor.values
  rcases h.exhaust.value <;> simp

theorem fallbackRetarder_eq (t : Settings) (h : Health) (force sigma : Nat) :
    let acc := t.releaseRate.toNat * t.sampleTimeout.toNat + sigma
    let ret := if h = .fault then 0 else force - acc / 1000
    fallbackRetarder t h force sigma = (ret, if ret = 0 then 0 else acc % 1000) := by
  unfold fallbackRetarder
  split_ifs <;> rfl

theorem fallbackShare_eq (t : Settings) (h : HealthMonitor) (fgov : Nat) (j : AxleId) :
    fallbackShare t h.values fgov j =
      if t.axleConfigured j = true ∧ h.modulator[j].value ≠ .fault then fgov * t.split[j].toNat / 100 else 0 := by
  simp [fallbackShare, HealthMonitor.values]

theorem handSetPoints_app (u : State) : u.handSetPoints.app = u.app := by rw [State.handSetPoints_frame]
theorem handSetPoints_ctl (u : State) : u.handSetPoints.ctl = u.ctl := by rw [State.handSetPoints_frame]
theorem handSetPoints_duty (u : State) : u.handSetPoints.duty = u.duty := by rw [State.handSetPoints_frame]
theorem handSetPoints_arbiter (u : State) : u.handSetPoints.arbiter = u.arbiter := by rw [State.handSetPoints_frame]
theorem handSetPoints_hottest (u : State) : u.handSetPoints.hottest = u.hottest := by rw [State.handSetPoints_frame]; rfl

theorem sum3_ofFn (x : AxleId → Nat) : sum3 (Vector.ofFn x) = x 0 + x 1 + x 2 := by simp [sum3]

/-- The fallback set-points with their summary pair, in the words of the statements (R154, R157). -/
theorem State.fallback_eq {m : Mode} {b : Bool} (mode : s.ctl.mode = m) (shown : s.ctl.fallback = b) :
    s.fallback =
      let g := governing s.demand.slots s.demand.age
      let acc := s.settings.releaseRate.toNat * s.settings.sampleTimeout.toNat + s.ctl.sigma
      let ret := if s.health.retarder.value = .fault then 0 else s.app.last.ret - acc / 1000
      let share (j : AxleId) : Nat :=
        if s.settings.axleConfigured j = true ∧ s.health.modulator[j].value ≠ .fault then
          fgovOf g * s.settings.split[j].toNat / 100
        else 0
      let pressure (j : AxleId) : Nat := fallbackPressure s.settings j (share j)
      ({ s with
        ctl := { s.ctl with sigma := if ret = 0 then 0 else acc % 1000 }
        app := { s.app with last := { ret := ret, stage := 0, pressure := Vector.ofFn pressure } } } : State).handSetPoints.handSummary
          { count := s.app.passCount, mode := m, stage := 0, dutyWarn := s.duty.warn, fallback := b
            fgov := fgovOf g, fcmd := s.app.fcmd, governing := g.map Prod.fst }
          { count := s.app.passCount, fret := ret, sumF := share 0 + share 1 + share 2, balance := 0
            hottest := s.hottest, listed := s.arbiter.listed.length, waiting := !s.arbiter.waiting.isEmpty } := by
  subst mode shown
  have step := fallbackRetarder_eq s.settings s.health.retarder.value s.app.last.ret s.ctl.sigma
  have values : s.health.values.retarder = s.health.retarder.value := rfl
  simp only [State.fallback, State.fallbackSetPoints, values, step, fallbackShare_eq, sum3_ofFn, handSetPoints_app,
    handSetPoints_ctl, handSetPoints_duty, handSetPoints_arbiter, handSetPoints_hottest]
  rfl

theorem State.missedPeriod_normal (mode : s.ctl.mode = .normal) : s.missedPeriod = s.setMode .hold := by
  unfold State.missedPeriod; rw [mode]

theorem State.missedPeriod_hold (mode : s.ctl.mode = .hold) :
    s.missedPeriod =
      let t := s.clearRecovery.setMode .loss
      { t with ctl := { t.ctl with lossHold := some t.settings.lossHold.toNat } }.reissue := by
  unfold State.missedPeriod; rw [mode]

theorem State.missedPeriod_loss (mode : s.ctl.mode = .loss) : s.missedPeriod = s.clearRecovery.reissue := by
  unfold State.missedPeriod; rw [mode]

theorem State.missedPeriod_failsafe (mode : s.ctl.mode = .failsafe) : s.missedPeriod = s.clearRecovery.fallback := by
  unfold State.missedPeriod; rw [mode]

/-- A sample timer expiry leaves the pass in flight and what its figures are formed from (R81). -/
theorem State.sampleTimerExpiry_frame (s : State) :
    ∃ t : State, exec .sampleTimerExpiry s = .next t ∧ t.pass = s.pass ∧ t.settings = s.settings
      ∧ t.app.fcmd = s.app.fcmd ∧ t.app.rho = s.app.rho ∧ t.app.dir = s.app.dir := by
  refine ⟨_, exec_eq_taken rfl s, ?_⟩
  have frame := State.missedPeriod_frame { s with intake := { s.intake with timer := some s.settings.sampleTimeout.toNat } }
  simp only [taken, State.sampleTimerExpires]
  split_ifs
  · exact ⟨rfl, rfl, rfl, rfl, rfl⟩
  · rw [frame]
    exact ⟨rfl, rfl, rfl, rfl, rfl⟩
  · exact ⟨rfl, rfl, rfl, rfl, rfl⟩

/-! ## The end of a pass (R123 to R126) -/

theorem coverOf_eq (r : Record) (d : Nat) : coverOf r d = coverEarned r d := by
  unfold coverOf coverEarned
  rcases r.state <;> simp
  rcases r.cls <;> simp [RecClass.isDemand]

theorem Slot.takeCover_eq (x : Slot) (snapshot : Option Record) (d : Nat) :
    x.takeCover snapshot d =
      { x with
        mark := false
        record :=
          if x.mark = true then
            match snapshot with
            | some q => x.record.map fun r => { r with cover := coverEarned q d }
            | none => x.record
          else x.record } := by
  rcases snapshot with _ | q
  · simp [Slot.takeCover]
  · simp only [Slot.takeCover, coverOf_eq]

theorem dutyCondition_eq (fret cret sumF : Nat) : dutyCondition fret cret sumF = decide (fret = cret ∧ 0 < cret ∧ 0 < sumF) := by
  simp [dutyCondition, Bool.decide_and, Bool.and_assoc, Bool.beq_eq_decide_eq]

/-- The state when a pass has written its results and handed over its frames and its summary pair. -/
theorem State.issuePass_eq (s : State) (p : Pass) (f : Figures) :
    s.issuePass p f =
      let count := s.app.passCount + 1
      ({ s with
        app :=
          { fcmd := f.fcmd, rho := f.rho, dir := f.dir
            last := { ret := f.fret, stage := f.stage, pressure := f.pressure }, passCount := count }
        ctl := { s.ctl with sigma := if p.fromFailsafe = true then 0 else s.ctl.sigma } } : State).handSetPoints.handSummary
          { count := count, mode := s.ctl.mode, stage := f.stage, dutyWarn := s.duty.warn, fallback := s.ctl.fallback
            fgov := p.arb.fgov, fcmd := f.fcmd, governing := p.arb.governing }
          { count := count, fret := f.fret, sumF := f.shares[0] + f.shares[1] + f.shares[2]
            balance := if 0 < f.shortfall then f.shortfall else -(f.overshoot : Int)
            hottest := p.hottest, listed := p.listed.length, waiting := !p.waiting.isEmpty } := by
  have settled : ({ s with app := s.app.written f } : State).settleSigma p
      = { s with app := s.app.written f, ctl := { s.ctl with sigma := if p.fromFailsafe = true then 0 else s.ctl.sigma } } := by
    unfold State.settleSigma
    split_ifs <;> rfl
  unfold State.issuePass
  rw [settled]
  simp only [State.passSummaryA, State.passSummaryB, handSetPoints_app, handSetPoints_ctl, handSetPoints_duty]
  rfl

/-- What a pass writes and hands over is in the apportioner, the mode controller and the queues (R123 to R125). -/
theorem State.issuePass_frame (s : State) (p : Pass) (f : Figures) :
    s.issuePass p f = { s with
      app := (s.issuePass p f).app, ctl := (s.issuePass p f).ctl, chassisTx := (s.issuePass p f).chassisTx
      vehicleTx := (s.issuePass p f).vehicleTx, freeCount := (s.issuePass p f).freeCount } := by
  rw [State.issuePass_eq]
  unfold State.handSummary
  rw [State.placeSummary_frame, State.handSetPoints_frame]

theorem State.endPass_of_flying {p : Pass} (flies : s.pass = some p) :
    s.endPass = State.startHeld
      { (s.issuePass p (p.figures s.settings s.app)).takeUpdates p (p.figures s.settings s.app) with pass := none } := by
  unfold State.endPass
  split
  next free => exact absurd (free.symm.trans flies) nofun
  next q flying =>
    obtain rfl := Option.some.inj (flying.symm.trans flies)
    rfl

/-- The updates at the end of a pass, of a state that agrees with s in what they read (R126). -/
theorem State.takeUpdates_eq (demand : t.demand = s.demand) (accounts : t.accounts = s.accounts) (duty : t.duty = s.duty)
    (settings : t.settings = s.settings) (p : Pass) (f : Figures) :
    t.takeUpdates p f =
      let total := f.shares[0] + f.shares[1] + f.shares[2]
      { t with
        demand := { s.demand with slots := Vector.ofFn fun i =>
          { s.slot i with
            mark := false
            record :=
              if (s.slot i).mark = true then
                match p.slots[i].record with
                | some q => (s.record i).map fun r => { r with cover := coverEarned q (f.fcmd - f.shortfall + f.overshoot) }
                | none => s.record i
              else s.record i } }
        accounts := Vector.ofFn fun j =>
          if s.settings.axleConfigured j = true then
            s.accounts[j].map fun a =>
              a.update (36000 * s.settings.cth[j].toNat) (1000 * s.settings.tau[j].toNat) f.shares[j] p.sample.v
                p.sample.dt p.sample.ambient
          else s.accounts[j]
        duty := s.duty.update (decide (f.fret = p.cap.cret ∧ 0 < p.cap.cret ∧ 0 < total)) p.sample.dt
          s.settings.dutyThreshold.toNat } := by
  unfold State.takeUpdates State.updateThermal State.updateCover
  simp only [dutyCondition_eq, demand, accounts, duty, settings, Slot.takeCover_eq]
  rfl

end Sys2Proof.Machine

namespace Sys2Proof.Proofs
open Sys2Proof.Machine Sys2Proof.Claims

/-- Settles O32: the pair completes a sample, which starts a pass or is held. -/
theorem sampleCompleted : Obligations.SampleCompleted := by
  unfold Obligations.SampleCompleted
  intro s ts oil ambient l0 l1 l2 a running mode pending same fresh valid loads tamb bad x t
  have complete : ({ s with intake := { s.intake with pendingA := none } } : State).completeSample a
      { ts := ts, oil := oil, ambient := ambient, loads := loads } = some x := by
    unfold State.completeSample
    subst same
    have dt : (s.intake.lastUsed.elim 10 fun u => min ((a.ts.toNat + 65536 - u.toNat) % 65536) 50) = x.dt := by
      simp only [x]
      cases s.intake.lastUsed <;> rfl
    simp only [deltaT_eq fresh, if_pos valid, dt, tempOf_ambient, sampleLoads_eq, ← Bool.decide_or]
    rfl
  have consumed : s.takeFrameB { ts := ts, oil := oil, ambient := ambient, loads := loads }
      = ({ s with intake := { s.intake with pendingA := none } } : State).takeSample x := by
    rw [State.takeFrameB, if_neg mode, pending]
    simp only [if_pos same, complete]
  rw [exec_running rfl running]
  simp only [taken]
  rw [consumed]
  refine ⟨fun free => ?_, fun flies => ?_⟩
  · rw [State.takeSample_of_free (s := { s with intake := { s.intake with pendingA := none } }) free]
    rfl
  · rw [State.takeSample_of_flying (s := { s with intake := { s.intake with pendingA := none } }) flies]
    rfl

/-- Settles O30. -/
theorem sampleTimerExpiryByMode : Obligations.SampleTimerExpiryByMode := by
  unfold Obligations.SampleTimerExpiryByMode
  refine ⟨fun s p flies => ?_, fun s running runs => ?_⟩
  · obtain ⟨t, next, pass, settings, app⟩ := s.sampleTimerExpiry_frame
    refine ⟨t, next, pass.trans flies, ?_⟩
    obtain ⟨fcmd, rho, dir⟩ := app
    rw [settings, Pass.figures_congr p s.settings fcmd rho dir]
  · intro restarted reissued
    have restart : taken .sampleTimerExpiry s = State.missedPeriod { s with intake := restarted } :=
      if_pos (Option.isSome_iff_ne_none.2 runs)
    rw [exec_running rfl running, restart]
    refine ⟨fun mode => ?_, fun mode => ?_, fun mode => ?_, fun mode fallback => ?_⟩
    · rw [State.missedPeriod_normal (s := { s with intake := restarted }) mode]
      rfl
    · rw [State.missedPeriod_hold (s := { s with intake := restarted }) mode]
      simp only [State.reissue, SetPoints.reissued_eq]
      rfl
    · rw [State.missedPeriod_loss (s := { s with intake := restarted }) mode]
      simp only [State.reissue, SetPoints.reissued_eq]
      rfl
    · intro g acc ret share pressure
      rw [State.missedPeriod_failsafe (s := { s with intake := restarted }) mode,
        State.fallback_eq (s := State.clearRecovery { s with intake := restarted }) mode fallback]
      rfl

/-- Settles O34. -/
theorem passEndEffect : Obligations.PassEndEffect := by
  unfold Obligations.PassEndEffect
  intro s p running flies f count total delivered issued ended
  have issue : s.issuePass p f = issued := State.issuePass_eq s p f
  have frame := State.issuePass_frame s p f
  rw [issue] at frame
  have demand : issued.demand = s.demand := by rw [frame]
  have accounts : issued.accounts = s.accounts := by rw [frame]
  have duty : issued.duty = s.duty := by rw [frame]
  have settings : issued.settings = s.settings := by rw [frame]
  have intake : issued.intake = s.intake := by rw [frame]
  have updated : ({ issued.takeUpdates p f with pass := none } : State) = ended :=
    (congrArg (fun u : State => ({ u with pass := none } : State))
      (State.takeUpdates_eq demand accounts duty settings p f)).trans rfl
  have held : ended.intake = s.intake := intake
  have landed : s.endPass = ended.startHeld := (State.endPass_of_flying flies).trans
    (congrArg State.startHeld
      ((congrArg (fun u : State => ({ u.takeUpdates p f with pass := none } : State)) issue).trans updated))
  rw [exec_running rfl running]
  simp only [taken, landed]
  unfold State.startHeld
  rw [held]
  cases s.intake.held with
  | none => rfl
  | some x => simp only [State.startPass_eq]

end Sys2Proof.Proofs
end

section
/-! PROOF. The figures of a pass that are numbers alone: the ramp, the cap, the pressures, the thermal update and the hottest axle
(R110 to R113, R122, R132 to R136), and the arbiter result (R64 to R69). -/

namespace Sys2Proof.Machine
open Sys2Proof.Claims

/-! ## The ramp (R111, R112) -/

/-- The residue that a pass carries over (R111). -/
abbrev carriedRho (prev dir : RampDir) (rho : Nat) : Nat := if prev = dir then rho else 0

theorem ramp_up {fcmd t rate : Nat} (above : fcmd < t) (limited : 0 < rate) (prev : RampDir) (release dt rho : Nat) :
    ramp prev (some rate) release dt t fcmd rho = ratedStep .up rate dt t fcmd (carriedRho prev .up rho) := by
  have dir : rampDirection t fcmd = .up := if_pos above
  obtain ⟨n, rfl⟩ : ∃ n, rate = n + 1 := ⟨rate - 1, by omega⟩
  unfold ramp
  simp only [dir, eq_comm]

theorem ramp_down {fcmd t : Nat} (below : t < fcmd) (prev : RampDir) (onset : Option Nat) (release dt rho : Nat) :
    ramp prev onset release dt t fcmd rho = ratedStep .down release dt t fcmd (carriedRho prev .down rho) := by
  have dir : rampDirection t fcmd = .down := by rw [rampDirection, if_neg below.not_gt, if_pos below]
  unfold ramp
  simp only [dir, eq_comm]

theorem ramp_unlimited {fcmd t : Nat} (above : fcmd < t) (prev : RampDir) (release dt rho : Nat) :
    ramp prev (some 0) release dt t fcmd rho = { fcmd := t, rho := 0 } := by
  have dir : rampDirection t fcmd = .up := if_pos above
  unfold ramp
  simp only [dir]

theorem ramp_level (prev : RampDir) (onset : Option Nat) (release dt fcmd rho : Nat) :
    ramp prev onset release dt fcmd fcmd rho = { fcmd := fcmd, rho := 0 } := by
  have dir : rampDirection fcmd fcmd = .level := by rw [rampDirection, if_neg (lt_irrefl _), if_neg (lt_irrefl _)]
  unfold ramp
  simp only [dir]

/-- A rated step up delivers rate × Δt exactly, until it reaches the target. -/
theorem ratedStep_up (fcmd t rate dt rho : Nat) :
    let y := ratedStep .up rate dt t fcmd rho
    y.fcmd ≤ t ∧ (y.fcmd = t → y.rho = 0) ∧ y.rho < 1000
    ∧ (y.fcmd < t → 1000 * y.fcmd + y.rho = 1000 * fcmd + rho + rate * dt)
    ∧ (1000 * fcmd + rho + rate * dt < 1000 * t → y.fcmd < t) := by
  refine ⟨?_, ?_, ratedStep_rho_lt .up rate dt t fcmd rho, ?_, ?_⟩
  all_goals
    unfold ratedStep
    dsimp only
    generalize rate * dt = moved
  · exact min_le_left _ _
  · exact fun reached => if_pos reached
  · intro short
    rw [if_neg short.ne]
    omega
  · omega

/-- A rated step down delivers rate × Δt exactly, until it reaches the target. -/
theorem ratedStep_down (fcmd t rate dt rho : Nat) :
    let y := ratedStep .down rate dt t fcmd rho
    t ≤ y.fcmd ∧ (y.fcmd = t → y.rho = 0) ∧ y.rho < 1000
    ∧ (t < y.fcmd → 1000 * y.fcmd + rate * dt + rho = 1000 * fcmd + y.rho)
    ∧ (1000 * t + rate * dt + rho < 1000 * fcmd → t < y.fcmd) := by
  refine ⟨?_, ?_, ratedStep_rho_lt .down rate dt t fcmd rho, ?_, ?_⟩
  all_goals
    unfold ratedStep
    dsimp only
    generalize rate * dt = moved
  · exact le_max_left _ _
  · exact fun reached => if_pos reached
  · intro short
    rw [if_neg short.ne']
    omega
  · omega

theorem ramp_fcmd_le (prev : RampDir) (onset : Option Nat) (release dt t fcmd rho : Nat) :
    (ramp prev onset release dt t fcmd rho).fcmd ≤ max t fcmd := by
  unfold ramp
  dsimp only
  split
  · exact le_max_right _ _
  · exact ratedStep_fcmd_le _ _ _ _ _ _
  · split
    · exact le_max_right _ _
    · exact le_max_left _ _
    · exact ratedStep_fcmd_le _ _ _ _ _ _

/-! ## Pressures (R122) -/

/-- A pressure is the least multiple of 5 that gives the share. -/
theorem upToFive_ceilDiv {amount per pmax : Nat} (positive : 0 < per) (five : pmax % 5 = 0) (within : amount ≤ pmax * per) :
    let p := min (upToFive (ceilDiv amount per)) pmax
    amount ≤ p * per ∧ ∀ q : Nat, q % 5 = 0 → amount ≤ q * per → p ≤ q := by
  have least (q : Nat) : amount ≤ q * per ↔ ceilDiv amount per ≤ q := by
    rw [ceilDiv, Nat.div_le_iff_le_mul positive]
    omega
  have fits := (least pmax).1 within
  simp only [least, upToFive]
  refine ⟨by omega, fun q multiple le => by omega⟩

theorem brakeLimit_le {t : Settings} {j : AxleId} {f share : Nat} (within : share ≤ brakeLimit t j f) :
    share * 25600 ≤ t.pmax[j].toNat * (t.gain[j].toNat * f) := by
  rw [← Nat.mul_assoc]
  exact (Nat.le_div_iff_mul_le (by decide)).1 within

/-! ## Thermal accounts (R132 to R136) -/

theorem tmod_nonpos {a : Int} (b : Int) (h : a ≤ 0) : a.tmod b ≤ 0 := by
  have := Int.tmod_nonneg b (Int.neg_nonneg_of_nonpos h)
  rw [Int.neg_tmod] at this
  omega

/-! ## The governing record (R64) -/

variable {slots : Vector Slot 24} {i j : SlotId} {q r : Record} {l : List SlotId}

theorem RecClass.code_injective {c d : RecClass} (same : c.code = d.code) : c = d :=
  Option.some.inj (((RecClass.ofCode_eq_some_iff _ _).2 rfl).symm.trans ((RecClass.ofCode_eq_some_iff _ _).2 same.symm))

theorem Record.candidate_iff (r : Record) : r.candidate = true ↔ r.state = .active ∧ r.cls ≠ .stability := by
  simp only [Record.candidate, Bool.and_eq_true, beq_iff_eq]
  rcases r.cls <;> simp [RecClass.isDemand]

/-- A candidate of a table (R64). -/
abbrev Standing (slots : Vector Slot 24) (j : SlotId) (q : Record) : Prop := slots[j].record = some q ∧ q.candidate = true

/-- Whether record r of slot i governs before record q of slot j, in an age order (R64). -/
abbrev Precedes (l : List SlotId) (i : SlotId) (r : Record) (j : SlotId) (q : Record) : Prop :=
  q.force < r.force ∨ q.force = r.force ∧ r.cls.code < q.cls.code
    ∨ q.force = r.force ∧ r.cls = q.cls ∧ l.idxOf i ≤ l.idxOf j

/-- What the choice along an age order has found: no candidate, or the first of them. -/
structure Chosen (slots : Vector Slot 24) (l : List SlotId) (best : Option (SlotId × Record)) : Prop where
  none : best = none → ∀ j ∈ l, ∀ q, ¬ Standing slots j q
  some : ∀ i r, best = some (i, r) →
    i ∈ l ∧ Standing slots i r ∧ ∀ j ∈ l, ∀ q, Standing slots j q → Precedes l i r j q

theorem Precedes.append (h : Precedes l i r j q) (hi : i ∈ l) (hj : j ∈ l) (k : SlotId) : Precedes (l ++ [k]) i r j q := by
  unfold Precedes
  rwa [List.idxOf_append_of_mem hi, List.idxOf_append_of_mem hj]

theorem governsBefore_iff (r q : Record) :
    r.governsBefore q = true ↔ q.force < r.force ∨ r.force = q.force ∧ r.cls.code < q.cls.code := by
  simp [Record.governsBefore]

theorem Chosen.step {best : Option (SlotId × Record)} (h : Chosen slots l best) (k : SlotId) :
    Chosen slots (l ++ [k]) (governingStep slots best k) := by
  by_cases standing : ∃ q, Standing slots k q
  · obtain ⟨q, hq, candidate⟩ := standing
    have only (p : Record) (hp : Standing slots k p) : p = q := Option.some.inj (hp.1.symm.trans hq)
    simp only [governingStep, hq, candidate, if_true]
    rcases best with _ | ⟨i, r⟩
    · refine ⟨nofun, ?_⟩
      rintro i r ⟨⟩
      refine ⟨by simp, ⟨hq, candidate⟩, fun j hj p hp => ?_⟩
      rcases List.mem_append.1 hj with old | new
      · exact absurd hp (h.none rfl j old p)
      · obtain rfl := List.mem_singleton.1 new
        rw [only p hp]
        exact .inr (.inr ⟨rfl, rfl, le_rfl⟩)
    · obtain ⟨mem, found, first⟩ := h.some i r rfl
      dsimp only
      split_ifs with governs
      · rw [governsBefore_iff] at governs
        refine ⟨nofun, ?_⟩
        rintro i r ⟨⟩
        refine ⟨by simp, ⟨hq, candidate⟩, fun j hj p hp => ?_⟩
        rcases List.mem_append.1 hj with old | new
        · rcases first j old p hp with less | ⟨equal, code⟩ | ⟨equal, cls, -⟩
          · unfold Precedes; omega
          · unfold Precedes; omega
          · rw [cls] at governs
            unfold Precedes; omega
        · obtain rfl := List.mem_singleton.1 new
          rw [only p hp]
          exact .inr (.inr ⟨rfl, rfl, le_rfl⟩)
      · rw [governsBefore_iff] at governs
        refine ⟨nofun, ?_⟩
        rintro i' r' ⟨⟩
        refine ⟨by simp [mem], found, fun j hj p hp => ?_⟩
        by_cases old : j ∈ l
        · exact (first j old p hp).append mem old k
        · obtain rfl : j = k := by simpa [old] using hj
          obtain rfl := only p hp
          have later : (l ++ [j]).idxOf i ≤ (l ++ [j]).idxOf j := by
            rw [List.idxOf_append_of_mem mem, List.idxOf_append_of_notMem old]
            exact (List.idxOf_lt_length_of_mem mem).le.trans (Nat.le_add_right _ _)
          by_cases cls : r.cls.code = p.cls.code
          · have same := RecClass.code_injective cls
            by_cases force : p.force = r.force
            · exact .inr (.inr ⟨force, same, later⟩)
            · exact .inl (by omega)
          · unfold Precedes; omega
  · have stays : governingStep slots best k = best := by
      unfold governingStep
      split
      · rfl
      next p hp => exact if_neg fun candidate => standing ⟨p, hp, candidate⟩
    rw [stays]
    refine ⟨fun none j hj p hp => ?_, fun i r found => ?_⟩
    · rcases List.mem_append.1 hj with old | new
      · exact h.none none j old p hp
      · obtain rfl := List.mem_singleton.1 new
        exact standing ⟨p, hp⟩
    · obtain ⟨mem, this, first⟩ := h.some i r found
      refine ⟨by simp [mem], this, fun j hj p hp => ?_⟩
      rcases List.mem_append.1 hj with old | new
      · exact (first j old p hp).append mem old k
      · obtain rfl := List.mem_singleton.1 new
        exact absurd ⟨p, hp⟩ standing

theorem chosen_governing (slots : Vector Slot 24) (age : List SlotId) : Chosen slots age (governing slots age) := by
  unfold governing
  induction age using List.reverseRecOn with
  | nil =>
    rw [List.foldl_nil]
    constructor
    · intro _ j mem
      cases mem
    · intro i r found
      cases found
  | append_singleton l k ih =>
    rw [List.foldl_append, List.foldl_cons, List.foldl_nil]
    exact ih.step k

/-! ## The rest of the arbiter result (R65, R66) -/

theorem mem_limits (slots : Vector Slot 24) (age : List SlotId) (c : Nat) :
    c ∈ (age.filterMap fun i => slots[i].record.bind fun r =>
      if r.state == .active && r.cls == .stability then r.limit else none) ↔
    ∃ i ∈ age, ∃ r : Record, slots[i].record = some r ∧ r.state = .active ∧ r.cls = .stability ∧ r.limit = some c := by
  simp [List.mem_filterMap, Option.bind_eq_some_iff, and_assoc]

theorem stabilityCap_eq_some_iff (slots : Vector Slot 24) (age : List SlotId) (c : Nat) :
    let capping (l : Nat) : Prop := ∃ i ∈ age, ∃ r : Record,
      slots[i].record = some r ∧ r.state = .active ∧ r.cls = .stability ∧ r.limit = some l
    stabilityCap slots age = some c ↔ capping c ∧ ∀ l, capping l → c ≤ l := by
  intro capping
  simp only [stabilityCap, List.min?_eq_some_iff, mem_limits]
  rfl

theorem stabilityCap_eq_none_iff (slots : Vector Slot 24) (age : List SlotId) :
    stabilityCap slots age = none ↔ ∀ c : Nat, ¬ ∃ i ∈ age, ∃ r : Record,
      slots[i].record = some r ∧ r.state = .active ∧ r.cls = .stability ∧ r.limit = some c := by
  rw [stabilityCap, List.min?_eq_none_iff, List.eq_nil_iff_forall_not_mem]
  simp only [mem_limits]

/-- A source is in the inhibit set when a listed record withholds it. -/
theorem inhibitSet_iff {has : SourceSet → Bool} (empty : has .empty = false)
    (union : ∀ x y : SourceSet, has (x.union y) = (has x || has y)) (slots : Vector Slot 24) (listed : List SlotId) :
    has (inhibitSet slots listed) = true ↔ ∃ i ∈ listed, ∃ r : Record, ∃ x : SourceSet,
      slots[i].record = some r ∧ r.inhibit = some x ∧ has x = true := by
  have fold (acc : SourceSet) :
      has (listed.foldl (fun acc i => acc.union ((slots[i].record.bind Record.inhibit).getD .empty)) acc)
        = (has acc || listed.any fun i => has ((slots[i].record.bind Record.inhibit).getD .empty)) := by
    induction listed generalizing acc with
    | nil => simp
    | cons i l ih => rw [List.foldl_cons, ih, union, List.any_cons, Bool.or_assoc]
  rw [inhibitSet, fold, empty, Bool.false_or, List.any_eq_true]
  refine exists_congr fun i => and_congr_right fun _ => ?_
  rcases slots[i].record with _ | r
  · simp [empty]
  · rcases hx : r.inhibit with _ | x
    · simp [empty, hx]
    · simp [hx]

end Sys2Proof.Machine

namespace Sys2Proof.Proofs
open Sys2Proof.Machine Sys2Proof.Claims

/-- Settles O39. -/
theorem rampIsExact : Obligations.RampIsExact := by
  unfold Obligations.RampIsExact
  intro prev rate release dt t fcmd rho carried
  refine ⟨fun above limited => ?_, fun above => ramp_unlimited above prev release dt rho, fun below onset => ?_, ?_⟩
  · rw [ramp_up above limited]
    exact ratedStep_up fcmd t rate dt (carried .up)
  · rw [ramp_down below]
    exact ratedStep_down fcmd t release dt (carried .down)
  · rintro rfl onset
    exact ramp_level prev onset release dt t rho

/-- Settles O38. -/
theorem cappedTotal : Obligations.CappedTotal := by
  unfold Obligations.CappedTotal
  refine ⟨fun s x bound => ?_, fun p t x => ?_⟩
  · intro f
    have fcmd : f.fcmd = ((s.newPass x).total s.settings s.app).fcmd := rfl
    rw [fcmd]
    obtain ⟨le, -, capped⟩ := (ramp s.app.dir (s.newPass x).arb.onset s.settings.releaseRate.toNat (s.newPass x).sample.dt
      (target (s.newPass x).arb.fgov) s.app.fcmd s.app.rho).capped_le (s.newPass x).arb.cap
    have ramped := ramp_fcmd_le s.app.dir (s.newPass x).arb.onset s.settings.releaseRate.toNat (s.newPass x).sample.dt
      (target (s.newPass x).arb.fgov) s.app.fcmd s.app.rho
    have goal : target (s.newPass x).arb.fgov ≤ 2500 := min_le_right _ _
    refine ⟨by unfold Pass.total; omega, fun i hi r hr active stability l hl => ?_⟩
    rcases cap : stabilityCap s.demand.slots s.demand.age with _ | c
    · exact absurd ⟨i, hi, r, hr, active, stability, hl⟩ ((stabilityCap_eq_none_iff _ _).1 cap l)
    · exact (capped c cap).trans (((stabilityCap_eq_some_iff _ _ c).1 cap).2 l ⟨i, hi, r, hr, active, stability, hl⟩)
  · intro f goal y
    have total : (p.total t x) = y.capped p.arb.cap := rfl
    have fcmd : f.fcmd = (y.capped p.arb.cap).fcmd := rfl
    have rho : f.rho = (y.capped p.arb.cap).rho := rfl
    rw [fcmd, rho]
    refine ⟨fun c hc below => ?_, fun above => ?_, rfl⟩
    · rw [Option.mem_def.1 hc, Ramp.capped]
      simp only [if_pos below, and_self]
    · rcases cap : p.arb.cap with _ | c
      · exact ⟨rfl, rfl⟩
      · rw [Ramp.capped]
        simp only [if_neg (Nat.not_lt.2 (above c cap)), and_self]

/-- Settles O40. -/
theorem pressureOfShare : Obligations.PressureOfShare := by
  unfold Obligations.PressureOfShare
  refine ⟨fun p t x j _ => ?_, fun t j f share fade gain five => ?_⟩
  · simp [Pass.figures]
  · intro p
    have positive : 0 < t.gain[j].toNat * f := Nat.mul_pos gain fade
    have none (zero : share = 0) : p = 0 := if_pos zero
    have some (some : 0 < share) :
        p = min (upToFive (ceilDiv (share * 25600) (t.gain[j].toNat * f))) t.pmax[j].toNat := if_neg some.ne'
    refine ⟨?_, ?_, none, fun given within => ?_⟩
    · rcases share.eq_zero_or_pos with zero | given
      · rw [none zero]
      · rw [some given]
        exact min_five five
    · rcases share.eq_zero_or_pos with zero | given
      · rw [none zero]
        exact Nat.zero_le _
      · rw [some given]
        exact min_le_right _ _
    · rw [some given]
      exact upToFive_ceilDiv positive five (brakeLimit_le within)

/-- Settles O43. -/
theorem thermalUpdateIsExact : Obligations.ThermalUpdateIsExact := by
  unfold Obligations.ThermalUpdateIsExact
  refine ⟨fun a dh dc share v dt ambient hdh hdc => ?_, fun s j a tw set configured account highest low high => ?_⟩
  · intro b acc
    obtain ⟨-, heat, coolLow, coolHigh⟩ := a.update_range hdh hdc share v dt ambient
    refine ⟨a.heatAcc share v dt / dh, acc.tdiv dc, Nat.div_add_mod _ _, heat, Int.mul_tdiv_add_tmod _ _, coolLow, coolHigh,
      fun warm => Int.tmod_nonneg _ warm, fun cold => tmod_nonpos _ cold, rfl⟩
  · have hottest : s.hottestT16 = a.t16 := by
      have max : (((List.finRange 3).filter fun j => s.settings.axleConfigured j).map fun j => accountT16 j s.accounts[j]).max?
          = some a.t16 := by
        rw [List.max?_eq_some_iff]
        refine ⟨List.mem_map.2 ⟨j, by simpa [Settings.axleConfigured] using configured, by rw [account]; rfl⟩, fun b hb => ?_⟩
        obtain ⟨k, hk, rfl⟩ := List.mem_map.1 hb
        have inUse : k.val < s.settings.axleCount.toNat := by simpa [Settings.axleConfigured] using hk
        obtain ⟨c, hc⟩ := Option.ne_none_iff_exists'.1 (set k inUse)
        rw [hc]
        exact highest k c hc inUse
      rw [State.hottestT16, max, Option.getD_some]
    have whole : wholeDegrees s.hottestT16 = tw := by
      rw [hottest, wholeDegrees]
      omega
    rw [State.hottest, whole, bandOf]

/-- Settles O44: the choice along the age order keeps the first of the candidates met so far. -/
theorem governingRecord : Obligations.GoverningRecord := by
  unfold Obligations.GoverningRecord
  intro slots age candidate
  have chosen := chosen_governing slots age
  have standing (j : SlotId) (q : Record) : candidate j q ↔ j ∈ age ∧ Standing slots j q := by
    simp only [candidate, Standing, Record.candidate_iff]
  refine ⟨fun i r found => ?_, fun none => ?_, fun t listed => ?_⟩
  · obtain ⟨mem, this, first⟩ := chosen.some i r found
    refine ⟨(standing i r).2 ⟨mem, this⟩, by rw [found]; rfl, fun j q other => ?_⟩
    obtain ⟨mem, that⟩ := (standing j q).1 other
    exact first j mem q that
  · refine ⟨by rw [none]; rfl, fun j q other => ?_⟩
    obtain ⟨mem, that⟩ := (standing j q).1 other
    exact chosen.none none j mem q that
  · intro a capping withheld
    refine ⟨stabilityCap_eq_some_iff slots age, stabilityCap_eq_none_iff slots age,
      inhibitSet_iff rfl (fun _ _ => rfl) slots listed, inhibitSet_iff rfl (fun _ _ => rfl) slots listed,
      inhibitSet_iff rfl (fun _ _ => rfl) slots listed, fun i r found => ?_, fun none => ?_⟩
    · have result : a = arbitrate t slots age listed := rfl
      unfold arbitrate at result
      rw [found] at result
      rw [result]
      refine ⟨rfl, rfl, rfl, rfl, rfl, fun j => ?_, fun o onset => ?_, fun onset => ?_⟩
      · simp [Settings.axleConfigured]
      · simp [Option.mem_def.1 onset]
      · simp only [Option.bind_some, onset, Option.none_or]
        cases r.cls <;> rfl
    · have result : a = arbitrate t slots age listed := rfl
      unfold arbitrate at result
      rw [none] at result
      rw [result]
      refine ⟨rfl, rfl, rfl, ?_, ?_, ?_, fun j => ?_⟩
      · simp [SourceSet.less, SourceSet.all]
      · simp [SourceSet.less, SourceSet.all]
      · simp [SourceSet.less, SourceSet.all]
      · simp [Settings.axleConfigured, axleSetEmpty]

end Sys2Proof.Proofs
end

section
/-! PROOF. The stage, the sharing rounds as steps from board to board, and the balance of a pass (R114 to R121). -/

namespace Sys2Proof.Machine
open Sys2Proof.Claims

variable {w csvc : Vector Nat 3} {b : Board} {j : AxleId} {n : Nat}

/-! ## One round as a step from board to board (R119, R120) -/

theorem sumOver_weights (w : Vector Nat 3) (a : AxleSet) : sumOver a (fun j => w[j]) = totalWeight w a := by
  simp [sumOver, totalWeight, weightsIn, sum3]

/-- The share of an axle of A before it is held to its Csvc_j. -/
abbrev raised (w : Vector Nat 3) (b : Board) (j : AxleId) : Nat := b.shares[j] + (roundShares w b.a b.amount)[j]

/-- Whether there is something to place and an axle to place it on. -/
abbrev Live (w : Vector Nat 3) (b : Board) : Prop := b.amount ≠ 0 ∧ 0 < totalWeight w b.a

theorem next_of_ended (ended : ¬ Live w b) : b.next w csvc = b := by
  unfold Board.next
  refine if_pos ?_
  rw [sumOver_weights]
  unfold Live at ended
  omega

theorem next_of_live (live : Live w b) :
    b.next w csvc =
      { shares := Vector.ofFn fun j => if b.a[j] = true then min (raised w b j) csvc[j] else b.shares[j]
        a := Vector.ofFn fun j => b.a[j] && decide (raised w b j ≤ csvc[j])
        amount := sumOver b.a fun j => raised w b j - csvc[j] } := by
  unfold Board.next
  refine if_neg ?_
  rw [sumOver_weights]
  unfold Live at live
  omega

theorem next_shares (live : Live w b) (j : AxleId) :
    (b.next w csvc).shares[j] = if b.a[j] = true then min (raised w b j) csvc[j] else b.shares[j] := by
  simp [next_of_live live]

theorem next_a (live : Live w b) (j : AxleId) :
    (b.next w csvc).a[j] = (b.a[j] && decide (raised w b j ≤ csvc[j])) := by
  simp [next_of_live live]

theorem next_amount (live : Live w b) : (b.next w csvc).amount = sumOver b.a fun j => raised w b j - csvc[j] := by
  rw [next_of_live live]

/-- An axle outside A receives nothing. -/
theorem raised_of_out (live : Live w b) (out : b.a[j] = false) : raised w b j = b.shares[j] := by
  rw [raised, roundShares_eq_zero live.2 (.inl out), Nat.add_zero]

/-! ## The rounds of a pass -/

/-- The board after n rounds. -/
abbrev rounds (w csvc : Vector Nat 3) (n : Nat) (b : Board) : Board := (Board.next w csvc)^[n] b

theorem rounds_of_ended (ended : ¬ Live w b) (n : Nat) : rounds w csvc n b = b := Function.iterate_fixed (next_of_ended ended) n

theorem rounds_invariant {P : Board → Prop} (kept : ∀ b, P b → P (b.next w csvc)) (h : P b) (n : Nat) :
    P (rounds w csvc n b) := by
  induction n with
  | zero => exact h
  | succ n ih =>
    rw [rounds, Function.iterate_succ_apply']
    exact kept _ ih

theorem held_eq {a : Bool} {c m s : Nat} (out : a = false → m = s) :
    (if (a && decide (c < m)) = true then c else m) = if a = true then min m c else s := by
  cases a
  · simp [out rfl]
  · by_cases past : c < m
    · simp [past, past.le]
    · simp [past, Nat.not_lt.1 past]

theorem stays_eq (a : Bool) (c m : Nat) : (a && !(a && decide (c < m))) = (a && decide (m ≤ c)) := by
  cases a
  · rfl
  · simp [← decide_not]

theorem pool_eq (a : AxleSet) (csvc : Vector Nat 3) (m : AxleId → Nat) :
    sum3 (Vector.ofFn fun j => if (a[j.val] && decide (csvc[j.val] < m j)) = true then m j - csvc[j.val] else 0)
      = sumOver a fun j => m j - csvc[j.val] := by
  have each (b : Bool) (c k : Nat) : (if (b && decide (c < k)) = true then k - c else 0) = if b = true then k - c else 0 := by
    cases b
    · rfl
    · by_cases past : c < k
      · simp [past]
      · simp [past, Nat.sub_eq_zero_of_le (Nat.not_lt.1 past)]
  simp only [sum3, sumOver, Vector.getElem_ofFn, each]
  rfl

theorem sharingRounds_of_live (fuel : Nat) {a : AxleSet} {q : Nat} {shares : Vector Nat 3}
    (live : Live w { shares := shares, a := a, amount := q }) :
    sharingRounds w csvc (fuel + 1) a q shares =
      let c := Board.next w csvc { shares := shares, a := a, amount := q }
      if c.amount = 0 then { shares := c.shares, unplaced := 0 } else sharingRounds w csvc fuel c.a c.amount c.shares := by
  have weight : ¬ sum3 (weightsIn w a) = 0 := live.2.ne'
  have out (j : AxleId) (h : a[j] = false) := raised_of_out live h
  rw [next_of_live live, sharingRounds, if_neg weight]
  simp only [raised] at out ⊢
  simp only [Fin.getElem_fin, Vector.getElem_ofFn] at out ⊢
  have held (j : AxleId) := held_eq (c := csvc[j.val]) (out j)
  have left (j : AxleId) := stays_eq a[j.val] csvc[j.val] (shares[j.val] + (roundShares w a q)[j.val])
  have pool := pool_eq a csvc fun j => shares[j.val] + (roundShares w a q)[j.val]
  simp only [held, left, pool]

/-- The sharing rounds of the model are those of the boards. -/
theorem sharingRounds_eq (w csvc : Vector Nat 3) (fuel : Nat) (a : AxleSet) {q : Nat} (some : q ≠ 0) (shares : Vector Nat 3) :
    sharingRounds w csvc fuel a q shares =
      let c := rounds w csvc fuel { shares := shares, a := a, amount := q }
      { shares := c.shares, unplaced := c.amount } := by
  induction fuel generalizing a q shares with
  | zero => rfl
  | succ fuel ih =>
    by_cases weight : totalWeight w a = 0
    · have ended : ¬ Live w { shares := shares, a := a, amount := q } := fun live => live.2.ne' weight
      rw [sharingRounds_of_weightless weight, rounds_of_ended ended]
    · have live : Live w { shares := shares, a := a, amount := q } := ⟨some, Nat.pos_of_ne_zero weight⟩
      rw [sharingRounds_of_live fuel live, rounds, Function.iterate_succ_apply]
      dsimp only
      split_ifs with placed
      · have ended : ¬ Live w (Board.next w csvc { shares := shares, a := a, amount := q }) := fun live => live.1 placed
        rw [← rounds, rounds_of_ended ended, placed]
      · exact ih _ placed _

/-- The distribution is three rounds from the first board. -/
theorem distribute_eq (w csvc : Vector Nat 3) (candidates : AxleSet) (r : Nat) :
    distribute w csvc candidates r =
      let c := rounds w csvc 3 (firstBoard candidates r)
      { shares := c.shares, unplaced := c.amount } := by
  unfold distribute
  split_ifs with none
  · have ended : ¬ Live w (firstBoard candidates r) := fun live => live.1 none
    rw [rounds_of_ended ended, none]
    rfl
  · exact sharingRounds_eq w csvc 3 candidates none _

/-! ## What every round keeps -/

theorem sumOver_eq_sum (a : AxleSet) (x : AxleId → Nat) : sumOver a x = ∑ j : AxleId, if a[j] = true then x j else 0 := by
  simp [sumOver, Fin.sum_univ_three]

/-- What a round takes from an axle goes to the pool. -/
theorem sum_next (w csvc : Vector Nat 3) (b : Board) :
    sum3 (b.next w csvc).shares + (b.next w csvc).amount = sum3 b.shares + b.amount := by
  by_cases live : Live w b
  · have each (j : AxleId) : (b.next w csvc).shares[j] + (if b.a[j] = true then raised w b j - csvc[j] else 0)
        = b.shares[j] + (roundShares w b.a b.amount)[j] := by
      rw [next_shares live]
      by_cases within : b.a[j] = true
      · rw [if_pos within, if_pos within]
        unfold raised
        omega
      · rw [if_neg within, if_neg within]
        exact (raised_of_out live (by simpa using within)).symm
    calc sum3 (b.next w csvc).shares + (b.next w csvc).amount
        = ∑ j : AxleId, ((b.next w csvc).shares[j] + if b.a[j] = true then raised w b j - csvc[j] else 0) := by
          rw [sum3_eq_sum, next_amount live, sumOver_eq_sum, Finset.sum_add_distrib]
      _ = ∑ j : AxleId, (b.shares[j] + (roundShares w b.a b.amount)[j]) := Finset.sum_congr rfl fun j _ => each j
      _ = sum3 b.shares + b.amount := by rw [Finset.sum_add_distrib, ← sum3_eq_sum, ← sum3_eq_sum, sum_roundShares live.2]
  · rw [next_of_ended live]

/-- A board of the distribution among `candidates`: no share is above its Csvc_j, an axle that is no candidate has none, and a
candidate that has left A has its Csvc_j. -/
structure FairBoard (csvc : Vector Nat 3) (candidates : AxleSet) (b : Board) : Prop where
  within  : ∀ j : AxleId, b.shares[j] ≤ csvc[j]
  outside : ∀ j : AxleId, candidates[j] = false → b.a[j] = false ∧ b.shares[j] = 0
  full    : ∀ j : AxleId, candidates[j] = true → b.a[j] = false → b.shares[j] = csvc[j]

variable {candidates : AxleSet}

theorem FairBoard.next (h : FairBoard csvc candidates b) : FairBoard csvc candidates (b.next w csvc) := by
  by_cases live : Live w b
  · refine ⟨fun j => ?_, fun j out => ?_, fun j candidate left => ?_⟩
    · rw [next_shares live]
      split_ifs
      · exact min_le_right _ _
      · exact h.within j
    · obtain ⟨gone, nothing⟩ := h.outside j out
      rw [next_a live, next_shares live, gone]
      exact ⟨rfl, nothing⟩
    · rw [next_a live, Bool.and_eq_false_iff] at left
      rw [next_shares live]
      split_ifs with inside
      · have past := left.resolve_left (by simp [inside])
        exact min_eq_right (Nat.le_of_lt (by simpa using past))
      · exact h.full j candidate (by simpa using inside)
  · rw [next_of_ended live]
    exact h

theorem fair_firstBoard (csvc : Vector Nat 3) (candidates : AxleSet) (r : Nat) : FairBoard csvc candidates (firstBoard candidates r) :=
  ⟨fun j => by simp [firstBoard], fun j out => ⟨out, by simp [firstBoard]⟩, fun j candidate gone => by
    rw [show (firstBoard candidates r).a = candidates from rfl, candidate] at gone
    cases gone⟩

theorem stays_count (a : Bool) (m c : Nat) :
    (if (a && decide (m ≤ c)) = true then 1 else 0) ≤ (if a = true then 1 else 0)
      ∧ ((if a = true then m - c else 0) ≠ 0 →
        (if (a && decide (m ≤ c)) = true then 1 else 0) < (if a = true then 1 else 0)) := by
  cases a
  · simp
  · by_cases stays : m ≤ c
    · simp [stays, Nat.sub_eq_zero_of_le stays]
    · simp [stays]

/-- While something is left to place, a round ends the distribution or takes an axle out of A. -/
theorem count_next_lt (live : Live w b) (more : (b.next w csvc).amount ≠ 0) :
    sumOver (b.next w csvc).a (fun _ => 1) < sumOver b.a fun _ => 1 := by
  have each (j : AxleId) : (if (b.next w csvc).a[j] = true then 1 else 0) ≤ (if b.a[j] = true then 1 else 0)
      ∧ ((if b.a[j] = true then raised w b j - csvc[j] else 0) ≠ 0 →
        (if (b.next w csvc).a[j] = true then 1 else 0) < (if b.a[j] = true then 1 else 0)) := by
    rw [next_a live]
    exact stays_count b.a[j] (raised w b j) csvc[j]
  rw [next_amount live, sumOver_eq_sum] at more
  obtain ⟨j, -, taken⟩ := Finset.exists_ne_zero_of_sum_ne_zero more
  rw [sumOver_eq_sum, sumOver_eq_sum]
  exact Finset.sum_lt_sum (fun k _ => (each k).1) ⟨j, Finset.mem_univ j, (each j).2 taken⟩

/-- As many rounds as there are axles in A leave something only when no weight is left in A. -/
theorem weightless_of_left (enough : sumOver b.a (fun _ => 1) ≤ n) (left : (rounds w csvc n b).amount ≠ 0) :
    totalWeight w (rounds w csvc n b).a = 0 := by
  induction n generalizing b with
  | zero =>
    have empty : ∑ j : AxleId, (if b.a[j] = true then 1 else 0) = 0 := by rw [← sumOver_eq_sum]; omega
    rw [← sumOver_weights, sumOver_eq_sum]
    refine Finset.sum_eq_zero fun j hj => if_neg fun inside => ?_
    have := (Finset.sum_eq_zero_iff.1 empty) j hj
    simp [show b.a[j] = true from inside] at this
  | succ n ih =>
    by_cases live : Live w b
    · rw [rounds, Function.iterate_succ_apply] at left ⊢
      by_cases placed : (b.next w csvc).amount = 0
      · have ended : ¬ Live w (b.next w csvc) := fun live => live.1 placed
        rw [← rounds, rounds_of_ended ended] at left
        exact absurd placed left
      · have fewer := count_next_lt live placed
        exact ih (by omega) left
    · rw [rounds_of_ended live] at left ⊢
      by_contra weight
      exact live ⟨left, Nat.pos_of_ne_zero weight⟩

theorem count_le (a : AxleSet) : sumOver a (fun _ => 1) ≤ 3 := by
  unfold sumOver
  split_ifs <;> decide

/-- A distribution of an amount that every candidate can take. -/
theorem rounds_of_fits {r : Nat} (live : Live w (firstBoard candidates r))
    (fits : ∀ j : AxleId, (roundShares w candidates r)[j] ≤ csvc[j]) (n : Nat) :
    (rounds w csvc (n + 1) (firstBoard candidates r)).shares = roundShares w candidates r
      ∧ (rounds w csvc (n + 1) (firstBoard candidates r)).amount = 0 := by
  have got (j : AxleId) : raised w (firstBoard candidates r) j = (roundShares w candidates r)[j] := by
    simp [raised, firstBoard]
  have placed : ((firstBoard candidates r).next w csvc).amount = 0 := by
    rw [next_amount live, sumOver_eq_sum]
    refine Finset.sum_eq_zero fun j _ => ?_
    rw [got, Nat.sub_eq_zero_of_le (fits j), ite_self]
  have ended : ¬ Live w ((firstBoard candidates r).next w csvc) := fun live => live.1 placed
  rw [rounds, Function.iterate_succ_apply, ← rounds, rounds_of_ended ended]
  refine ⟨?_, placed⟩
  ext j hj : 1
  have own := next_shares (csvc := csvc) live ⟨j, hj⟩
  refine own.trans ?_
  split_ifs with candidate
  · rw [got]
    exact min_eq_left (fits ⟨j, hj⟩)
  · rw [← raised_of_out live (by simpa using candidate), got]
    rfl

/-! ## The exhaust stage (R114, R115) -/

theorem stageAt_eq (c : Capability) (s : Fin 3) : stageAt c s = c.stage s := by
  fin_cases s <;> rfl

theorem fits_iff (c : Capability) (s : Fin 3) (amount : Nat) : c.fits s amount = true ↔ ∃ a ∈ stageAt c s, a ≤ amount := by
  rw [Capability.fits, stageAt_eq, Option.any_eq_true]
  simp

theorem fits_zero (c : Capability) (amount : Nat) : c.fits 0 amount = true := by simp [Capability.fits, Capability.stage]

/-- s_up is the highest available stage that fits (R114). -/
theorem stageUp_spec (c : Capability) (fcmd : Nat) :
    c.fits (c.stageUp fcmd) fcmd = true ∧ ∀ higher > c.stageUp fcmd, c.fits higher fcmd = false := by
  unfold Capability.stageUp
  split_ifs with two one
  · exact ⟨two, fun h gt => by omega⟩
  · refine ⟨one, fun h gt => ?_⟩
    obtain rfl : h = 2 := by omega
    simpa using two
  · refine ⟨fits_zero c fcmd, fun h gt => ?_⟩
    obtain rfl | rfl : h = 1 ∨ h = 2 := by omega
    · simpa using one
    · simpa using two

theorem chooseStage_eq (c : Capability) (current : Fin 3) (fcmd hysteresis : Nat) :
    c.chooseStage current fcmd hysteresis =
      if c.exhaust = false then 0
      else if current ≤ c.stageUp fcmd then c.stageUp fcmd
      else if (∃ a ∈ stageAt c current, a ≤ fcmd + hysteresis) ∧ 0 < fcmd then current
      else c.stageUp fcmd := by
  unfold Capability.chooseStage
  cases c.exhaust
  · rfl
  · simp only [if_true, Bool.and_eq_true, fits_iff, decide_eq_true_eq, reduceCtorEq, if_false]

theorem force_le_of_fits {c : Capability} {s : Fin 3} {amount : Nat} (fits : c.fits s amount = true) : c.force s ≤ amount := by
  rw [fits_iff, stageAt_eq] at fits
  obtain ⟨a, found, le⟩ := fits
  rwa [Capability.force, Option.mem_def.1 found]

/-- The stage of a pass overshoots by the hysteresis at most (R115, R121). -/
theorem force_chooseStage_le (c : Capability) (current : Fin 3) (fcmd hysteresis : Nat) :
    c.force (c.chooseStage current fcmd hysteresis) ≤ fcmd + hysteresis := by
  have up := force_le_of_fits (stageUp_spec c fcmd).1
  unfold Capability.chooseStage
  dsimp only
  split_ifs with available low keeps
  · exact up.trans (Nat.le_add_right _ _)
  · rw [Bool.and_eq_true] at keeps
    exact force_le_of_fits keeps.1
  · exact up.trans (Nat.le_add_right _ _)
  · exact Nat.zero_le _

/-- The stage of a pass is an available one. -/
theorem chooseStage_available (c : Capability) (current : Fin 3) (fcmd hysteresis : Nat) :
    (c.stage (c.chooseStage current fcmd hysteresis)).isSome = true := by
  have some {s : Fin 3} {amount : Nat} (fits : c.fits s amount = true) : (c.stage s).isSome = true := by
    obtain ⟨a, found, -⟩ := (Option.any_eq_true _ _).1 fits
    rw [found]
    rfl
  have up := some (stageUp_spec c fcmd).1
  unfold Capability.chooseStage
  dsimp only
  split_ifs with available low keeps
  · exact up
  · rw [Bool.and_eq_true] at keeps
    exact some keeps.1
  · exact up
  · rfl

/-! ## A brake that is withheld (R85, R99) -/

theorem exhaustAvailable_eq_false {x : Sample} {h : Health} {allowed : Bool}
    (off : x.ratio = 0 ∨ x.exhaustMark = true ∨ allowed = false ∨ h = .fault) : exhaustAvailable x h allowed = false := by
  unfold exhaustAvailable
  rcases off with e | e | e | e <;> simp [e]

theorem retarderCapability_eq_zero {t : Settings} {x : Sample} {h : Health} {allowed : Bool} (off : allowed = false ∨ h = .fault) :
    retarderCapability t x h allowed = 0 := by
  rcases off with rfl | rfl
  · rfl
  · exact ite_self 0

theorem axleCapability_eq_zero {t : Settings} {j : AxleId} {load f : Nat} {h : Health} {allowed : Bool}
    (off : allowed = false ∨ h = .fault) : axleCapability t j load f h allowed = 0 := by
  unfold axleCapability
  rcases off with rfl | rfl
  · simp
  · exact ite_self 0

/-! ## The distribution in a pass (R118 to R121) -/

/-- The last board of a pass. -/
abbrev Pass.lastBoard (p : Pass) (r : Nat) : Board := rounds p.weights p.cap.csvc 3 (firstBoard p.candidates r)

variable (p : Pass) (t : Settings) (x : Apportioner)

/-- The amount that the brakes of the axles are to take. -/
abbrev Pass.remainder : Nat := (p.figures t x).fcmd - (p.figures t x).fexh - (p.figures t x).fret

theorem Pass.figures_shares : (p.figures t x).shares = (p.lastBoard (p.remainder t x)).shares :=
  congrArg Placed.shares (distribute_eq p.weights p.cap.csvc p.candidates (p.remainder t x))

theorem Pass.figures_shortfall : (p.figures t x).shortfall = (p.lastBoard (p.remainder t x)).amount :=
  congrArg Placed.unplaced (distribute_eq p.weights p.cap.csvc p.candidates (p.remainder t x))

theorem Pass.lastBoard_sum (r : Nat) : sum3 (p.lastBoard r).shares + (p.lastBoard r).amount = r :=
  rounds_invariant (P := fun b => sum3 b.shares + b.amount = r) (fun b h => (sum_next p.weights p.cap.csvc b).trans h)
    (by simp [firstBoard, sum3]) 3

theorem Pass.lastBoard_fair (r : Nat) : FairBoard p.cap.csvc p.candidates (p.lastBoard r) :=
  rounds_invariant (fun _ h => h.next) (fair_firstBoard p.cap.csvc p.candidates r) 3

theorem Pass.figures_pressure (j : AxleId) :
    (p.figures t x).pressure[j] = pressureOf t j p.cap.fade[j] (p.figures t x).shares[j] := by
  simp [Pass.figures]

/-- A brake that is no candidate, or has no capability, is asked for nothing. -/
theorem Pass.figures_out (j : AxleId) (out : p.candidates[j] = false) :
    (p.figures t x).shares[j] = 0 ∧ (p.figures t x).pressure[j] = 0 := by
  have nothing : (p.figures t x).shares[j] = 0 := by
    rw [p.figures_shares]
    exact ((p.lastBoard_fair _).outside j out).2
  exact ⟨nothing, by rw [p.figures_pressure, nothing]; rfl⟩

end Sys2Proof.Machine

namespace Sys2Proof.Proofs
open Sys2Proof.Machine Sys2Proof.Claims

/-- Settles O35: a round moves what an axle cannot take to the pool, and the stage overshoots by the hysteresis at most. -/
theorem passBalance : Obligations.PassBalance := by
  unfold Obligations.PassBalance
  intro p t x f total remainder
  have sum : total + f.shortfall = remainder := by
    have placed := p.lastBoard_sum (p.remainder t x)
    rwa [← p.figures_shares, ← p.figures_shortfall] at placed
  have fret : f.fret = min (f.fcmd - f.fexh) p.cap.cret := rfl
  have overshoot : f.overshoot = f.fexh - f.fcmd := rfl
  have left : remainder = f.fcmd - f.fexh - f.fret := rfl
  have bound : f.fexh ≤ f.fcmd + t.hysteresis.toNat := force_chooseStage_le p.cap p.currentStage f.fcmd t.hysteresis.toNat
  refine ⟨by omega, by omega, by omega, by omega, by omega, by omega, fun none => ?_, fun above => ⟨overshoot, ?_, ?_, ?_⟩,
    fun below => ⟨?_, ?_, sum⟩, rfl, rfl⟩
  · have nothing (j : AxleId) : f.shares[j] = 0 := (p.figures_out t x j (none j)).1
    have zero : total = 0 := by
      have first := nothing 0
      have second := nothing 1
      have third := nothing 2
      exact congrArg₂ (· + ·) (congrArg₂ (· + ·) first second) third
    omega
  all_goals omega

/-- Settles O36: the last board is fair, and leaves something only when no candidate with a weight is in A. -/
theorem sharesWithinCapability : Obligations.SharesWithinCapability := by
  unfold Obligations.SharesWithinCapability
  intro p t x f
  have fair := p.lastBoard_fair (p.remainder t x)
  have shares : f.shares = (p.lastBoard (p.remainder t x)).shares := p.figures_shares t x
  have shortfall : f.shortfall = (p.lastBoard (p.remainder t x)).amount := p.figures_shortfall t x
  obtain ⟨upFits, higherNot⟩ := stageUp_spec p.cap f.fcmd
  have fexh : f.fexh = (stageAt p.cap f.stage).getD 0 := by rw [stageAt_eq]; rfl
  have stage : f.stage = p.cap.chooseStage p.currentStage f.fcmd t.hysteresis.toNat := rfl
  have within (j : AxleId) : f.shares[j] ≤ p.cap.csvc[j] := by rw [shares]; exact fair.within j
  refine ⟨⟨p.cap.stageUp f.fcmd, (fits_iff _ _ _).1 upFits, fun higher gt a found => ?_, ?_⟩, fexh, rfl,
    min_le_right _ _, within, ?_, fun j out => p.figures_out t x j ?_, fun fade made => ?_⟩
  · have not := higherNot higher gt
    rw [← Bool.not_eq_true, fits_iff] at not
    exact Nat.lt_of_not_le fun le => not ⟨a, found, le⟩
  · rw [stage, chooseStage_eq]
  · intro w candidates remainder round last
    refine ⟨shares, shortfall, fun some weight fits => ?_, fun left j candidate weight => ?_⟩
    · have live : Live p.weights (firstBoard p.candidates (p.remainder t x)) := ⟨some.ne', by rwa [← sumOver_weights]⟩
      obtain ⟨taken, none⟩ := rounds_of_fits live fits 2
      exact ⟨shares.trans taken, shortfall.trans none⟩
    · have weightless : totalWeight p.weights (p.lastBoard (p.remainder t x)).a = 0 :=
        weightless_of_left (count_le _) (by rw [← shortfall]; exact left.ne')
      have gone : (p.lastBoard (p.remainder t x)).a[j] = false := by
        by_contra inside
        rw [← sumOver_weights, sumOver_eq_sum] at weightless
        have zero := (Finset.sum_eq_zero_iff.1 weightless) j (Finset.mem_univ j)
        rw [if_pos (by simpa using inside)] at zero
        exact weight.ne' zero
      rw [shares]
      exact fair.full j candidate gone
  · simp only [Pass.candidates, Fin.getElem_fin, Vector.getElem_ofFn, Bool.and_eq_false_iff]
    exact out
  · refine ⟨fun off => ?_, fun degraded two => ?_, fun off => ?_, fun j off => ?_⟩
    · have none : p.cap.exhaust = false := by
        rw [made]
        exact exhaustAvailable_eq_false off
      have first : f.stage = 0 := by rw [stage, chooseStage_eq, if_pos none]
      exact ⟨first, by rw [fexh, first]; rfl⟩
    · have available := chooseStage_available p.cap p.currentStage f.fcmd t.hysteresis.toNat
      have lost : p.cap.stage 2 = none := by
        rw [made]
        simp [Capability.stage, capability, availableForce, degraded]
      rw [← stage, two, lost] at available
      cases available
    · have none : p.cap.cret = 0 := by
        rw [made]
        exact retarderCapability_eq_zero off
      exact Nat.le_zero.1 (none ▸ (min_le_right _ _ : f.fret ≤ p.cap.cret))
    · have none : p.cap.csvc[j] = 0 := by
        rw [made]
        simp only [capability, Fin.getElem_fin, Vector.getElem_ofFn]
        exact axleCapability_eq_zero off
      exact Nat.le_zero.1 (none ▸ within j)

end Sys2Proof.Proofs
end

section
/-! PROOF. The capability of a pass: its figures and their ranges (R92 to R105, R135). -/

namespace Sys2Proof.Machine
open Sys2Proof.Claims

variable {t : Settings} {x : Sample} {j : AxleId}

/-! ## Health and the factors (R85, R96, R135) -/

theorem healthLimited_eq (h : Health) (x : Nat) : healthLimited h x = underHealth h x := by cases h <;> rfl

theorem healthLimited_le (h : Health) (x : Nat) : healthLimited h x ≤ x := by
  cases h
  · exact le_rfl
  · exact Nat.div_le_self x 2
  · exact Nat.zero_le x

/-- A rounded share of a range stays within it. -/
theorem ediv_range {a d w : Int} (hd : 0 < d) (low : 0 ≤ a) (high : a ≤ d) (hw : 0 ≤ w) : 0 ≤ w * a / d ∧ w * a / d ≤ w :=
  ⟨Int.ediv_nonneg (Int.mul_nonneg hw low) hd.le,
    Int.ediv_le_of_le_mul hd (Int.mul_le_mul_of_nonneg_left high hw)⟩

theorem derating_between (order : t.tder.toInt < t.tcut.toInt) {c : Int} (above : t.tder.toInt < c) (below : c < t.tcut.toInt) :
    (derating t (some c) : Int) = (256 * (t.tcut.toInt - c)) / (t.tcut.toInt - t.tder.toInt) := by
  have value : derating t (some c) = ((256 * (t.tcut.toInt - c)) / (t.tcut.toInt - t.tder.toInt)).toNat := by
    simp only [derating, if_neg (Int.not_le.2 above), if_neg (Int.not_le.2 below)]
  rw [value]
  exact Int.toNat_of_nonneg (ediv_range (by omega) (by omega) (by omega) (by decide)).1

theorem derating_of_le {c : Int} (le : c ≤ t.tder.toInt) : derating t (some c) = 256 := by
  simp only [derating, if_pos le]

theorem derating_of_ge (order : t.tder.toInt < t.tcut.toInt) {c : Int} (ge : t.tcut.toInt ≤ c) : derating t (some c) = 0 := by
  simp only [derating, if_neg (show ¬ c ≤ t.tder.toInt by omega), if_pos ge]

theorem derating_le (order : t.tder.toInt < t.tcut.toInt) (oil : Option Int) : derating t oil ≤ 256 := by
  rcases oil with _ | c
  · have unknown : derating t none = 128 := rfl
    omega
  · rcases le_or_gt c t.tder.toInt with le | above
    · rw [derating_of_le le]
    · rcases le_or_gt t.tcut.toInt c with ge | below
      · rw [derating_of_ge order ge]
        decide
      · have value := derating_between order above below
        have range := ediv_range (a := t.tcut.toInt - c) (d := t.tcut.toInt - t.tder.toInt) (w := 256) (by omega) (by omega) (by omega)
          (by decide)
        omega

theorem fadeFactor_of_lt {tw : Int} (cold : tw < t.ts.toInt) : fadeFactor t tw = 256 := if_pos cold

theorem fadeFactor_of_ge (order : t.ts.toInt < t.te.toInt) {tw : Int} (hot : t.te.toInt ≤ tw) :
    fadeFactor t tw = t.fadeFloor.toNat := by
  rw [fadeFactor, if_neg (by omega), if_pos hot]

theorem fadeFactor_between (floor : t.fadeFloor.toNat ≤ 256) {tw : Int} (low : t.ts.toInt ≤ tw) (high : tw < t.te.toInt) :
    (fadeFactor t tw : Int) = 256 - ((256 - (t.fadeFloor.toNat : Int)) * (tw - t.ts.toInt)) / (t.te.toInt - t.ts.toInt)
      ∧ t.fadeFloor.toNat ≤ fadeFactor t tw ∧ fadeFactor t tw ≤ 256 := by
  have range := ediv_range (a := tw - t.ts.toInt) (d := t.te.toInt - t.ts.toInt) (w := 256 - (t.fadeFloor.toNat : Int))
    (by omega) (by omega) (by omega) (by omega)
  have value : fadeFactor t tw
      = (256 - ((256 - (t.fadeFloor.toNat : Int)) * (tw - t.ts.toInt)) / (t.te.toInt - t.ts.toInt)).toNat := by
    rw [fadeFactor, if_neg (by omega), if_neg (by omega)]
  omega

theorem fadeFactor_range (order : t.ts.toInt < t.te.toInt) (floor : t.fadeFloor.toNat ≤ 256) (tw : Int) :
    t.fadeFloor.toNat ≤ fadeFactor t tw ∧ fadeFactor t tw ≤ 256 := by
  rcases lt_or_ge tw t.ts.toInt with cold | warm
  · rw [fadeFactor_of_lt cold]
    exact ⟨floor, le_rfl⟩
  · rcases lt_or_ge tw t.te.toInt with warm' | hot
    · exact (fadeFactor_between floor warm warm').2
    · rw [fadeFactor_of_ge order hot]
      exact ⟨le_rfl, floor⟩

/-! ## The figures of the brakes (R97 to R105) -/

theorem exhaustAvailable_iff (x : Sample) (h : Health) (allowed : Bool) :
    exhaustAvailable x h allowed = true ↔ x.exhaustMark = false ∧ x.ratio ≠ 0 ∧ h ≠ .fault ∧ allowed = true := by
  simp [exhaustAvailable, and_assoc]

theorem availableForce_eq (allowed : Bool) (force : Nat) :
    availableForce allowed force = if allowed = true ∧ 0 < force then some force else none := by
  simp [availableForce]

theorem axleCapability_eq (t : Settings) (j : AxleId) (load f : Nat) (h : Health) (allowed : Bool) :
    axleCapability t j load f h allowed =
      if j.val < t.axleCount.toNat ∧ allowed = true then
        underHealth h (min (t.pmax[j].toNat * t.gain[j].toNat * f / 25600) (981 * load * t.mu.toNat / 10000))
      else 0 := by
  simp only [axleCapability, Settings.axleConfigured, Bool.and_eq_true, decide_eq_true_eq, healthLimited_eq]
  rfl

theorem axleCapability_le (t : Settings) (j : AxleId) (load f : Nat) (h : Health) (allowed : Bool) :
    axleCapability t j load f h allowed ≤ min (brakeLimit t j f) (adhesionLimit t load) := by
  unfold axleCapability
  split_ifs
  · exact healthLimited_le h _
  · exact Nat.zero_le _

theorem adhesionLimit_le {load : Nat} (hload : load ≤ 254) (mu : t.mu.toNat ≤ 100) : adhesionLimit t load ≤ 2491 := by
  have : load * t.mu.toNat ≤ 254 * 100 := Nat.mul_le_mul hload mu
  rw [adhesionLimit, Nat.mul_assoc]
  omega

theorem retarderCapability_le (points : ∀ k : Fin 17, t.retPoints[k].toNat ≤ 2500) (order : t.tder.toInt < t.tcut.toInt)
    (x : Sample) (h : Health) (allowed : Bool) : retarderCapability t x h allowed ≤ 2500 := by
  have pitch : 0 < retarderPitch t := Nat.add_pos_left (by decide) _
  have value : lookup t.retPoints 0 (retarderPitch t) x.v ≤ 2500 := lookup_le (v := 2500) pitch points 0 x.v
  have derated : lookup t.retPoints 0 (retarderPitch t) x.v * derating t x.oil ≤ 2500 * 256 :=
    Nat.mul_le_mul value (derating_le order x.oil)
  unfold retarderCapability
  split_ifs
  · refine (healthLimited_le h _).trans ?_
    omega
  · exact Nat.zero_le _

end Sys2Proof.Machine

namespace Sys2Proof.Proofs
open Sys2Proof.Machine Sys2Proof.Claims

/-- Settles O42. -/
theorem capabilityRanges : Obligations.CapabilityRanges := by
  unfold Obligations.CapabilityRanges
  refine ⟨fun s j a tw _ account low high => ?_, fun t x j => ⟨fun order => ?_, fun order floor tw => ?_,
    fun load small mu f h allowed => ?_, fun points order h allowed => retarderCapability_le points order x h allowed,
    fun points o p n k pitch above segment => ?_, fun h src fade => ?_⟩⟩
  · have whole : wholeDegrees (accountT16 j s.accounts[j]) = tw := by
      rw [account]
      change a.t16 / 16 = tw
      omega
    simp only [State.fadeFactors, Fin.getElem_fin, Vector.getElem_ofFn]
    exact congrArg (fadeFactor s.settings) whole
  · refine ⟨derating_le order x.oil, fun none => by rw [none]; rfl, fun c hc => ?_⟩
    rw [Option.mem_def.1 hc]
    exact ⟨derating_of_le, derating_of_ge order, derating_between order⟩
  · obtain ⟨low, high⟩ := fadeFactor_range order floor tw
    exact ⟨low, high, fadeFactor_of_lt, fadeFactor_of_ge order, fun warm below => (fadeFactor_between floor warm below).1⟩
  · have both := axleCapability_le t j load f h allowed
    refine ⟨both.trans ((min_le_right _ _).trans (adhesionLimit_le small mu)), both.trans (min_le_left _ _), fun off => ?_⟩
    rcases off with zero | off | off | free
    · have none : adhesionLimit t load = 0 := by rw [zero]; simp [adhesionLimit]
      exact Nat.le_zero.1 (none ▸ both.trans (min_le_right _ _))
    · exact axleCapability_eq_zero (.inr off)
    · exact axleCapability_eq_zero (.inl off)
    · rw [axleCapability, free, Bool.false_and]
      rfl
  · intro a b r
    have value := lookup_on_segment points pitch k above segment
    have offset : ((n - o - k.val * p : Nat) : Int) = r := by
      have le : k.val * p ≤ n - o := by rw [← segment]; exact Nat.div_mul_le_self _ _
      simp only [r]
      push_cast [Nat.cast_sub le, Nat.cast_sub above.le]
      rfl
    rw [value, segmentValue, offset]
  · intro c force
    have csvc : c.csvc[j] = axleCapability t j x.loads[j] fade[j] h.modulator[j] src.svc := by simp [c, capability]
    have candidate : c.candidate[j] = (t.axleConfigured j && h.modulator[j] != .fault) := by simp [c, capability]
    refine ⟨?_, exhaustAvailable_iff x h.exhaust src.exh, availableForce_eq c.exhaust (force t.stage1Points), ?_, ?_, ?_, rfl⟩
    · rw [← healthLimited_eq]
      rfl
    · have made : c.stage2 = availableForce (c.exhaust && h.exhaust == .ok) (force t.stage2Points) := rfl
      rw [made, availableForce_eq]
      simp only [Bool.and_eq_true, beq_iff_eq, and_assoc]
    · rw [csvc, axleCapability_eq]
    · rw [candidate]
      simp [Settings.axleConfigured]

end Sys2Proof.Proofs
end
